-- ==== Sys2Proof/Word.lean ====
section
/-! DEFINITION. The word types of VPGM-CORE (00_scope.md R8, R11 to R13). -/

namespace Sys2Proof

/-- A nibble, "a 4-bit value, the native word size of this CPU's registers and memory cells" (00_scope.md R17). -/
abbrev Nib := BitVec 4

/-- A byte: the 8-bit immediates, SP, the timers and a byte of the ROM image. -/
abbrev Byte := BitVec 8

/-- A data address, 12 bits (20_memory.md R60). -/
abbrev Addr := BitVec 12

/-- A program address, 13 bits: bank, page and step (10_state.md R23). -/
abbrev PcWord := BitVec 13

/-- An opcode, 12 bits (30_encoding.md R130). -/
abbrev Opcode := BitVec 12

/-- A word of ROM, 16 bits (20_memory.md R62). -/
abbrev RomWord := BitVec 16

end Sys2Proof
end

