-- ==== Sys2Proof/Config.lean ====
section
/-! DEFINITION. The parameters of a machine instance (00_scope.md R9, R10). They are fixed for the life of the machine: no
instruction, no peripheral and no reset changes one. The defaults stand in Machine/Defaults.lean. -/

namespace Sys2Proof

/-- `ROM_WORD_ORDER` (00_scope.md R9, 20_memory.md R62): with `big` the byte at `2w` is bits 15:8 of the word. -/
inductive RomOrder where
  | big
  | little
deriving DecidableEq, Repr

/-- `P3_DEDICATED_DIR` (00_scope.md R9, 20_memory.md R78). -/
inductive PortDir where
  | input
  | output
deriving DecidableEq, Repr

/-- The parameters of 00_scope.md R9. `IO_MAP` is not a field: it is the map of 20_memory.md R72. -/
structure Params where
  rom : List Byte
  cpuHz : Rat
  oscHz : Rat
  k0Pullup : Nib
  k1Pullup : Nib
  port3Dedicated : Bool
  resetPc : PcWord
  romWordOrder : RomOrder
  intCycles : Nat
  undefCycles : Nat
  haltStepCycles : Nat
  clkTimerDiv : Rat
  swDiv : Rat
  ptDiv : Vector (Option Rat) 8
  bzDiv : Vector Rat 8
  envStepTicks : Vector Nat 2
  shotTicks : Vector Nat 2
  bzActiveLow : Bool
  rotWritesZ : Bool
  psetMasksInterrupt : Bool
  p3DedicatedDir : PortDir
  ffCap : Nat
deriving DecidableEq, Repr

/-- The ranges that 00_scope.md R9 gives the parameters in its column "type". -/
def Params.wf (p : Params) : Bool :=
  decide (0 < p.cpuHz) && decide (0 < p.oscHz) && decide (0 < p.haltStepCycles) && decide (1 ≤ p.clkTimerDiv)
    && decide (1 ≤ p.swDiv)
    && p.ptDiv.toList.all (fun d => match d with | none => true | some q => decide (1 ≤ q))
    && p.bzDiv.toList.all (fun q => decide (0 < q)) && p.envStepTicks.toList.all (fun n => decide (0 < n))
    && p.shotTicks.toList.all (fun n => decide (0 < n))

end Sys2Proof
end

