-- ==== Sys2Proof/Machine/Defaults.lean ====
section
/-! DEFINITION. The default value of every parameter (00_scope.md R9, column "default"). -/

namespace Sys2Proof.Machine

/-- `OSC_HZ` by default: 32 768 Hz (00_scope.md R9, 60_exceptions.md R320). -/
def defaultOscHz : Rat := 32768

/-- The defaults of 00_scope.md R9, with the empty ROM (70_reset_and_hazards.md R401): a program is a construction argument
(notes/assumptions/2.md). -/
def defaultParams : Params where
  rom := []
  cpuHz := 1060000
  oscHz := defaultOscHz
  k0Pullup := 0xF#4
  k1Pullup := 0xF#4
  port3Dedicated := false
  resetPc := 0x0000#13
  romWordOrder := .big
  intCycles := 12
  undefCycles := 5
  haltStepCycles := 5
  clkTimerDiv := 256
  swDiv := defaultOscHz / 100
  ptDiv := #v[none, none, some 128, some 64, some 32, some 16, some 8, some 2]
  bzDiv := #v[8, 10, 12, 14, 16, 20, 24, 28]
  envStepTicks := #v[2048, 4096]
  shotTicks := #v[1024, 4096]
  bzActiveLow := false
  rotWritesZ := true
  psetMasksInterrupt := false
  p3DedicatedDir := .output
  ffCap := 19660800

end Sys2Proof.Machine
end

