-- ==== Sys2Proof/Machine/State.lean ====
section
/-! DEFINITION. The whole mutable state of the block (10_state.md R20 to R38), the state after construction and reset
(70_reset_and_hazards.md R400, R401, R403), and the reasons a step can stop. State is plain data. -/

namespace Sys2Proof.Machine

/-- Sparse nibble memory in one canonical form: indices strictly rising, no cell equal to 0. A cell that is not listed reads 0,
the reset content of 10_state.md R32 (notes/assumptions/6.md). -/
abbrev Memory := List (Nat × Nib)

/-- The registers, flags and latches of the core (10_state.md R20 to R31, R39). -/
structure Cpu where
  /-- accumulator A (R20) -/
  a : Nib
  /-- accumulator B (R20) -/
  b : Nib
  /-- page, high and low nibble of IX (R21) -/
  xp : Nib
  xh : Nib
  xl : Nib
  /-- page, high and low nibble of IY (R21) -/
  yp : Nib
  yh : Nib
  yl : Nib
  /-- stack pointer (R22) -/
  sp : Byte
  /-- program counter (R23) -/
  pc : PcWord
  /-- next page counter (R25) -/
  npc : PcWord
  /-- the flags C, Z, D and I (R26, R27) -/
  fC : Bool
  fZ : Bool
  fD : Bool
  fI : Bool
  /-- halt latch (R29) -/
  halt : Bool
  /-- reset latch (R30): nothing in the block sets it -/
  resetLatch : Bool
  /-- interrupt-enable delay (R31) -/
  intDelay : Bool
deriving DecidableEq, Repr

/-- One P port (10_state.md R33, 20_memory.md R78): driven latch, host pin level, linked drive, latched value, driven output. -/
structure PPort where
  pd : Nib
  pl : Nib
  ld : Option Nib
  pv : Nib
  drive : Option Nib
deriving DecidableEq, Repr

/-- The I/O registers (10_state.md R33; addresses and bits 20_memory.md R72). -/
structure Io where
  /-- clock-timer factor flags, bit 3 IT1, bit 2 IT2, bit 1 IT8, bit 0 IT32 -/
  ift : Nib
  /-- stopwatch factor flags, bit 1 ISW1, bit 0 ISW10 -/
  ifsw : BitVec 2
  /-- the other factor flags -/
  ipt : Bool
  isio : Bool
  ik0 : Bool
  ik1 : Bool
  /-- the masks, bits as their factor flags; per pin for the K ports -/
  eit : Nib
  eisw : BitVec 2
  eipt : Bool
  eisio : Bool
  eik0 : Nib
  eik1 : Nib
  /-- main timer -/
  tm : Byte
  /-- stopwatch BCD digits, 1/100 s and 1/10 s -/
  swl : Nib
  swh : Nib
  /-- programmable timer counter and reload data -/
  pt : Byte
  rd : Byte
  /-- serial data and its write mask, bit 0 for SDL, bit 1 for SDH -/
  sd : Byte
  sioMask : BitVec 2
  /-- K0 input relation -/
  dfk0 : Nib
  /-- K-port pin levels -/
  kl0 : Nib
  kl1 : Nib
  /-- output-port latches; bit 3 of R4 is the buzzer tone enable -/
  r0 : Nib
  r1 : Nib
  r2 : Nib
  r3 : Nib
  r4 : Nib
  /-- the P ports -/
  p0 : PPort
  p1 : PPort
  p2 : PPort
  p3 : PPort
  /-- P-port direction (1 = output) and pull-up configuration -/
  ioc : Nib
  pup : Nib
  /-- control registers -/
  ctrlOsc : Nib
  lcdCtrl : Nib
  lcdContrast : Nib
  svd : Nib
  /-- BZFQ, the stored bits of BZC1 -/
  bzfq : BitVec 3
  /-- SHTPW, ENRTM and ENON, the stored bits of BZC2 -/
  shtpw : Bool
  enrtm : Bool
  enon : Bool
  /-- programmable-timer divider select -/
  ptc : BitVec 3
  sioc : Nib
  hzc : Nib
  /-- run bits of the stopwatch and the programmable timer -/
  swrun : Bool
  ptrun : Bool
deriving DecidableEq, Repr

/-- The residual counters of the clock network, exact rationals (10_state.md R34), and its diagnostic tick counters
(10_state.md R37, 60_exceptions.md R325). -/
structure ClockNet where
  oscResidual : Rat
  tmResidual : Rat
  swResidual : Rat
  ptResidual : Rat
  oscTicks : Nat
  tmTicks : Nat
  swTicks : Nat
deriving DecidableEq, Repr

/-- A buzzer output event: on or off, frequency in Hz, gain 0 to 1 (60_exceptions.md R352). -/
structure BuzzerEvent where
  on : Bool
  hz : Rat
  gain : Rat
deriving DecidableEq, Repr

/-- The silent event `(false, 0, 0)` (60_exceptions.md R352). -/
def BuzzerEvent.off : BuzzerEvent := ⟨false, 0, 0⟩

/-- The buzzer synthesizer (10_state.md R35). -/
structure Buzzer where
  shotActive : Bool
  shotCount : Nat
  /-- 0 to 7 -/
  envLevel : Fin 8
  envCount : Nat
  prevRequest : Bool
  lastEvent : BuzzerEvent
deriving DecidableEq, Repr

/-- The output events of the block (60_exceptions.md R380). -/
inductive OutEvent where
  | buzzer (e : BuzzerEvent)
  | serialOut (v : Byte)
deriving DecidableEq, Repr

/-- Everything a data access or the clock network can change: the memories and the devices. -/
structure Bus where
  /-- general RAM, 768 nibbles, by data address (10_state.md R32, 20_memory.md R63) -/
  ram : Memory
  /-- the two VRAM banks as one array of 160 nibbles, by index (10_state.md R32, 20_memory.md R64) -/
  vram : Memory
  io : Io
  clk : ClockNet
  bz : Buzzer
  /-- display generation (10_state.md R36) -/
  displayGeneration : Nat
  /-- every event emitted so far, oldest first: the model's own field (notes/assumptions/5.md) -/
  events : List OutEvent
deriving DecidableEq, Repr

/-- The six interrupt sources (60_exceptions.md R304). -/
inductive IntSource where
  | pt
  | sio
  | k1
  | k0
  | sw
  | tm
deriving DecidableEq, Repr

/-- Interrupt entries counted per source (10_state.md R37). -/
structure IntCounts where
  pt : Nat
  sio : Nat
  k1 : Nat
  k0 : Nat
  sw : Nat
  tm : Nat
deriving DecidableEq, Repr

/-- The diagnostic counters of the core (10_state.md R37, 60_exceptions.md R314). -/
structure Diag where
  interruptCount : Nat
  /-- `PC[11:0]` after the last interrupt entry -/
  lastVector : BitVec 12
  counts : IntCounts
  haltedCycles : Nat
deriving DecidableEq, Repr

/-- The state of a machine instance (10_state.md R38). -/
structure State where
  /-- the construction arguments: nothing changes them (00_scope.md R10; notes/assumptions/1.md) -/
  params : Params
  cpu : Cpu
  bus : Bus
  diag : Diag
  /-- the cycles the last step returned (60_exceptions.md R302): the model's own field (notes/assumptions/4.md) -/
  cost : Nat
deriving DecidableEq, Repr

/-- The faults. There are none: "This hardware raises no exception and has no fault" (00_scope.md R15; 20_memory.md R61,
60_exceptions.md R315; notes/assumptions/17.md). -/
inductive Fault
deriving DecidableEq, Repr

/-- The refusals. -/
inductive Refusal where
  /-- raised by an arm of `exec` whose instruction has no meaning yet; safe (the run stops). No arm raises it. -/
  | notModelled (mnemonic : String)
deriving DecidableEq, Repr

/-- Whether port 3 is a dedicated output (20_memory.md R78). -/
def port3Output (p : Params) : Bool := p.port3Dedicated && p.p3DedicatedDir == .output

/-- A P port after reset: pin levels 0xF, nothing linked or driven, latched as an input (10_state.md R33). -/
def PPort.reset : PPort := ⟨0#4, 0xF#4, none, 0xF#4, none⟩

/-- The core after reset (70_reset_and_hazards.md R400, R403). -/
def Cpu.reset (p : Params) : Cpu where
  a := 0#4
  b := 0#4
  xp := 0#4
  xh := 0#4
  xl := 0#4
  yp := 0#4
  yh := 0#4
  yl := 0#4
  sp := 0#8
  pc := p.resetPc
  npc := p.resetPc
  fC := false
  fZ := false
  fD := false
  fI := false
  halt := false
  resetLatch := false
  intDelay := false

/-- The I/O registers after reset, with the port values that `Relatch()` gives (10_state.md R33). -/
def Io.reset (p : Params) : Io where
  ift := 0#4
  ifsw := 0#2
  ipt := false
  isio := false
  ik0 := false
  ik1 := false
  eit := 0#4
  eisw := 0#2
  eipt := false
  eisio := false
  eik0 := 0#4
  eik1 := 0#4
  tm := 0#8
  swl := 0#4
  swh := 0#4
  pt := 0#8
  rd := 0#8
  sd := 0#8
  sioMask := 0#2
  dfk0 := 0#4
  kl0 := p.k0Pullup
  kl1 := p.k1Pullup
  r0 := 0#4
  r1 := 0#4
  r2 := 0#4
  r3 := 0#4
  r4 := 0#4
  p0 := PPort.reset
  p1 := PPort.reset
  p2 := PPort.reset
  p3 := if port3Output p then { PPort.reset with pv := 0#4, drive := some 0#4 } else PPort.reset
  ioc := 0#4
  pup := 0#4
  ctrlOsc := 0#4
  lcdCtrl := 0x8#4
  lcdContrast := 0#4
  svd := 0#4
  bzfq := 0#3
  shtpw := false
  enrtm := false
  enon := false
  ptc := 0#3
  sioc := 0#4
  hzc := 0#4
  swrun := false
  ptrun := false

/-- The buzzer after construction: all zero and `lastEvent = (false, 0, 0)`, and, where `BZ_ACTIVE_LOW` makes the cleared `R4[3]`
request the tone, the envelope restarted as `BuzzerUpdate()` does it (70_reset_and_hazards.md R400, R401; notes/assumptions/9.md). -/
def Buzzer.reset (p : Params) : Buzzer where
  shotActive := false
  shotCount := 0
  envLevel := if p.bzActiveLow then 7 else 0
  envCount := if p.bzActiveLow then p.envStepTicks[0] else 0
  prevRequest := p.bzActiveLow
  lastEvent := BuzzerEvent.off

/-- The clock network after reset (10_state.md R34, R37). -/
def ClockNet.reset : ClockNet := ⟨0, 0, 0, 0, 0, 0, 0⟩

/-- The diagnostic counters after reset (10_state.md R37). -/
def Diag.reset : Diag := ⟨0, 0#12, ⟨0, 0, 0, 0, 0, 0⟩, 0⟩

/-- The machine right after construction with the arguments `p` (70_reset_and_hazards.md R401). -/
def State.construct (p : Params) : State where
  params := p
  cpu := Cpu.reset p
  bus :=
    { ram := []
      vram := []
      io := Io.reset p
      clk := ClockNet.reset
      bz := Buzzer.reset p
      displayGeneration := 0
      events := [] }
  diag := Diag.reset
  cost := 0

/-- The machine right after construction and reset with every parameter at its default (70_reset_and_hazards.md R403). -/
def State.reset : State := State.construct defaultParams

end Sys2Proof.Machine
end

