-- ==== Sys2Proof/Machine/AddressMap.lean ====
section
/-! DEFINITION. The data memory map: the regions (20_memory.md R63 to R67) and the 48 decoded I/O registers (R72). -/

namespace Sys2Proof.Machine

/-- The decoded I/O registers, named as in 20_memory.md R72. -/
inductive IoReg where
  | ift
  | ifsw
  | ifpt
  | ifsio
  | ifk0
  | ifk1
  | eit
  | eisw
  | eipt
  | eisio
  | eik0
  | eik1
  | tml
  | tmh
  | swl
  | swh
  | ptl
  | pth
  | rdl
  | rdh
  | sdl
  | sdh
  | k0
  | dfk0
  | k1
  | r0
  | r1
  | r2
  | r3
  | r4
  | p0
  | p1
  | p2
  | p3
  | ctrlOsc
  | lcdCtrl
  | lcdContrast
  | svd
  | bzc1
  | bzc2
  | ctrlTm
  | ctrlSw
  | ctrlPt
  | ptc
  | sioc
  | hzc
  | ioc
  | pup
deriving DecidableEq, Repr

/-- The register map: every address of 20_memory.md R72 and its register. -/
def ioMap : List (Nat × IoReg) := [
  (0xF00, .ift), (0xF01, .ifsw), (0xF02, .ifpt), (0xF03, .ifsio), (0xF04, .ifk0), (0xF05, .ifk1),
  (0xF10, .eit), (0xF11, .eisw), (0xF12, .eipt), (0xF13, .eisio), (0xF14, .eik0), (0xF15, .eik1),
  (0xF20, .tml), (0xF21, .tmh), (0xF22, .swl), (0xF23, .swh), (0xF24, .ptl), (0xF25, .pth),
  (0xF26, .rdl), (0xF27, .rdh), (0xF30, .sdl), (0xF31, .sdh), (0xF40, .k0), (0xF41, .dfk0),
  (0xF42, .k1), (0xF50, .r0), (0xF51, .r1), (0xF52, .r2), (0xF53, .r3), (0xF54, .r4),
  (0xF60, .p0), (0xF61, .p1), (0xF62, .p2), (0xF63, .p3), (0xF70, .ctrlOsc), (0xF71, .lcdCtrl),
  (0xF72, .lcdContrast), (0xF73, .svd), (0xF74, .bzc1), (0xF75, .bzc2), (0xF76, .ctrlTm), (0xF77, .ctrlSw),
  (0xF78, .ctrlPt), (0xF79, .ptc), (0xF7A, .sioc), (0xF7B, .hzc), (0xF7D, .ioc), (0xF7E, .pup)]

/-- The decoded register at a data address, if there is one (20_memory.md R65, R72). -/
def ioRegAt (a : Addr) : Option IoReg := ioMap.lookup a.toNat

/-- What a data address reaches (20_memory.md R66): a RAM cell, a VRAM index, a decoded register, or nothing. -/
inductive Region where
  | ram (i : Nat)
  | vram (i : Nat)
  | io (r : IoReg)
  | unmapped
deriving DecidableEq, Repr

/-- The decode order of 20_memory.md R66: RAM (R63), VRAM bank 1, VRAM bank 2 (R64), the I/O window (R65), "else no-op" (R67). -/
def regionOf (a : Addr) : Region :=
  let n := a.toNat
  if n ≤ 0x2FF then .ram n
  else if 0xE00 ≤ n ∧ n ≤ 0xE4F then .vram (n - 0xE00)
  else if 0xE80 ≤ n ∧ n ≤ 0xECF then .vram (n - 0xE80 + 80)
  else if 0xF00 ≤ n ∧ n ≤ 0xF7F then
    match ioRegAt a with
    | some r => .io r
    | none => .unmapped
  else .unmapped

end Sys2Proof.Machine
end

