-- ==== Sys2Proof/Machine/Buzzer.lean ====
section
/-! DEFINITION. The buzzer synthesizer (60_exceptions.md R350 to R355). -/

namespace Sys2Proof.Machine

/-- `tone = (R4[3] = 1) XOR BZ_ACTIVE_LOW` (60_exceptions.md R350). -/
def tone (p : Params) (b : Bus) : Bool := Bool.xor (b.io.r4.getLsbD 3) p.bzActiveLow

/-- `request = tone OR shotActive` (60_exceptions.md R350). -/
def buzzerRequest (p : Params) (b : Bus) : Bool := tone p b || b.bz.shotActive

/-- `gain = (ENON = 1) ? envLevel / 7 : 1` (60_exceptions.md R352). -/
def buzzerGain (b : Bus) : Rat := if b.io.enon then (b.bz.envLevel.val : Rat) / 7 else 1

/-- `OSC_HZ / BZ_DIV[BZFQ]` (60_exceptions.md R352). -/
def buzzerHz (p : Params) (b : Bus) : Rat := p.oscHz / p.bzDiv[b.io.bzfq.toNat]'b.io.bzfq.isLt

/-- `Event()` (60_exceptions.md R352). The gain is positive exactly when the envelope is off or its level is not 0. -/
def buzzerEvent (p : Params) (b : Bus) : BuzzerEvent :=
  if buzzerRequest p b && (!b.io.enon || b.bz.envLevel.val != 0) then ⟨true, buzzerHz p b, buzzerGain b⟩ else BuzzerEvent.off

/-- `EmitIfChanged()` (60_exceptions.md R352). -/
def emitIfChanged (p : Params) (b : Bus) : Bus :=
  let e := buzzerEvent p b
  if e = b.bz.lastEvent then b
  else { b with bz := { b.bz with lastEvent := e }, events := b.events ++ [.buzzer e] }

/-- `ENV_STEP_TICKS[ENRTM]` (60_exceptions.md R353). -/
def envStep (p : Params) (b : Bus) : Nat := p.envStepTicks[b.io.enrtm.toNat]'(Bool.toNat_lt _)

/-- `EnvRestart()` (60_exceptions.md R353). -/
def envRestart (p : Params) (b : Bus) : Bus :=
  { b with bz := { b.bz with envLevel := 7, envCount := envStep p b } }

/-- `BuzzerUpdate()` (60_exceptions.md R351). -/
def buzzerUpdate (p : Params) (b : Bus) : Bus :=
  let req := buzzerRequest p b
  let b := if req && !b.bz.prevRequest then envRestart p b else b
  emitIfChanged p { b with bz := { b.bz with prevRequest := req } }

/-- The start of a one-shot pulse by `BZSHOT`; a shot already active is not restarted (60_exceptions.md R354). -/
def shotStart (p : Params) (b : Bus) : Bus :=
  if b.bz.shotActive then b
  else { b with bz := { b.bz with
    shotActive := true, shotCount := p.shotTicks[b.io.shtpw.toNat]'(Bool.toNat_lt _) } }

/-- The one-shot counter's part of `BuzzerTick()` (60_exceptions.md R355). -/
def shotTick (b : Bus) : Bus :=
  if b.bz.shotActive then
    let n := b.bz.shotCount - 1
    { b with bz := { b.bz with shotCount := n, shotActive := n != 0 } }
  else b

/-- The envelope counter's part of `BuzzerTick()` (60_exceptions.md R355). -/
def envTick (p : Params) (b : Bus) : Bus :=
  if b.io.enon && buzzerRequest p b && b.bz.envLevel.val != 0 then
    let n := b.bz.envCount - 1
    if n = 0 then { b with bz := { b.bz with envLevel := b.bz.envLevel - 1, envCount := envStep p b } }
    else { b with bz := { b.bz with envCount := n } }
  else b

/-- `BuzzerTick()` (60_exceptions.md R355). -/
def buzzerTick (p : Params) (b : Bus) : Bus := buzzerUpdate p (envTick p (shotTick b))

end Sys2Proof.Machine
end

