-- ==== Sys2Proof/Machine/Io.lean ====
section
/-! DEFINITION. The I/O registers: what a read returns, what a read acknowledges, what a write does (20_memory.md R71 to R83). -/

namespace Sys2Proof.Machine

/-- Four bits as a nibble, the first the most significant. -/
def nibOfBits (b3 b2 b1 b0 : Bool) : Nib :=
  BitVec.ofBool b3 ++ BitVec.ofBool b2 ++ BitVec.ofBool b1 ++ BitVec.ofBool b0

/-- The low nibble of a byte. -/
def loNib (v : Byte) : Nib := v.extractLsb' 0 4

/-- The high nibble of a byte. -/
def hiNib (v : Byte) : Nib := v.extractLsb' 4 4

/-- The byte with the given high and low nibbles. -/
def byteOf (hi lo : Nib) : Byte := hi ++ lo

/-! ## P ports (20_memory.md R78) -/

/-- The P port of an index. -/
def Io.port (io : Io) : Fin 4 → PPort
  | 0 => io.p0
  | 1 => io.p1
  | 2 => io.p2
  | 3 => io.p3

/-- Replace the P port of an index. -/
def Io.setPort (io : Io) (n : Fin 4) (q : PPort) : Io :=
  match n with
  | 0 => { io with p0 := q }
  | 1 => { io with p1 := q }
  | 2 => { io with p2 := q }
  | 3 => { io with p3 := q }

/-- `dir(n) = 1`: port `n` is an output (20_memory.md R78, 60_exceptions.md R365). -/
def portDir (p : Params) (io : Io) (n : Fin 4) : Bool :=
  if n = 3 ∧ p.port3Dedicated = true then p.p3DedicatedDir == .output else io.ioc.getLsbD n.val

/-- `PS(n) = PL_n AND (LD_n if LD_n is not NONE else 0xF)` (20_memory.md R78). -/
def PPort.sensed (q : PPort) : Nib := q.pl &&& q.ld.getD 0xF#4

/-- What a read of port `n` returns: `(dir(n) = 1) ? PD_n : PS(n)` (20_memory.md R78). -/
def portValue (p : Params) (io : Io) (n : Fin 4) : Nib :=
  if portDir p io n then (io.port n).pd else (io.port n).sensed

/-- Latch one port: `PV_n` and `portDrive(n)` (20_memory.md R78). -/
def PPort.latch (q : PPort) (out : Bool) : PPort :=
  { q with pv := if out then q.pd else q.sensed, drive := if out then some q.pd else none }

/-- `Relatch()` (20_memory.md R78). -/
def relatch (p : Params) (io : Io) : Io :=
  { io with
    p0 := io.p0.latch (portDir p io 0), p1 := io.p1.latch (portDir p io 1),
    p2 := io.p2.latch (portDir p io 2), p3 := io.p3.latch (portDir p io 3) }

/-- `write Pn, v: PD_n <- v[3:0] ; Relatch()` (20_memory.md R78). -/
def portWrite (p : Params) (n : Fin 4) (v : Nib) (io : Io) : Io :=
  relatch p (io.setPort n { io.port n with pd := v })

/-! ## Reads -/

/-- The value a read of a register returns (20_memory.md R71 to R83). -/
def ioValue (p : Params) (r : IoReg) (b : Bus) : Nib :=
  match r with
  | .ift => b.io.ift
  | .ifsw => b.io.ifsw.setWidth 4
  | .ifpt => nibOfBits false false false b.io.ipt
  | .ifsio => nibOfBits false false false b.io.isio
  | .ifk0 => nibOfBits false false false b.io.ik0
  | .ifk1 => nibOfBits false false false b.io.ik1
  | .eit => b.io.eit
  | .eisw => b.io.eisw.setWidth 4
  | .eipt => nibOfBits false false false b.io.eipt
  | .eisio => nibOfBits false false false b.io.eisio
  | .eik0 => b.io.eik0
  | .eik1 => b.io.eik1
  | .tml => loNib b.io.tm
  | .tmh => hiNib b.io.tm
  | .swl => b.io.swl
  | .swh => b.io.swh
  | .ptl => loNib b.io.pt
  | .pth => hiNib b.io.pt
  | .rdl => loNib b.io.rd
  | .rdh => hiNib b.io.rd
  | .sdl => loNib b.io.sd
  | .sdh => hiNib b.io.sd
  | .k0 => b.io.kl0
  | .dfk0 => b.io.dfk0
  | .k1 => b.io.kl1
  | .r0 => b.io.r0
  | .r1 => b.io.r1
  | .r2 => b.io.r2
  | .r3 => b.io.r3
  | .r4 => b.io.r4
  | .p0 => portValue p b.io 0
  | .p1 => portValue p b.io 1
  | .p2 => portValue p b.io 2
  | .p3 => portValue p b.io 3
  | .ctrlOsc => b.io.ctrlOsc
  | .lcdCtrl => b.io.lcdCtrl
  | .lcdContrast => b.io.lcdContrast
  | .svd => b.io.svd
  | .bzc1 => b.io.bzfq.setWidth 4
  | .bzc2 => nibOfBits b.bz.shotActive b.io.shtpw b.io.enrtm b.io.enon
  | .ctrlTm => 0#4
  | .ctrlSw => nibOfBits false false b.io.swrun false
  | .ctrlPt => nibOfBits false false false b.io.ptrun
  | .ptc => b.io.ptc.setWidth 4
  | .sioc => b.io.sioc
  | .hzc => b.io.hzc
  | .ioc => b.io.ioc
  | .pup => b.io.pup

/-- What a read of a register changes: the six factor-flag registers are cleared by it, every other read changes nothing
(20_memory.md R73, R87). -/
def ioAck (r : IoReg) (b : Bus) : Bus :=
  match r with
  | .ift => { b with io := { b.io with ift := 0#4 } }
  | .ifsw => { b with io := { b.io with ifsw := 0#2 } }
  | .ifpt => { b with io := { b.io with ipt := false } }
  | .ifsio => { b with io := { b.io with isio := false } }
  | .ifk0 => { b with io := { b.io with ik0 := false } }
  | .ifk1 => { b with io := { b.io with ik1 := false } }
  | _ => b

/-! ## Writes -/

/-- After a write to SDL or SDH: when both halves have been written, emit `serialOut(SD)` and clear the mask (20_memory.md R75). -/
def serialEmit (b : Bus) : Bus :=
  if b.io.sioMask = 3#2 then
    { b with io := { b.io with sioMask := 0#2 }, events := b.events ++ [.serialOut b.io.sd] }
  else b

/-- A write to LCD_CTRL (20_memory.md R79). -/
def lcdWrite (v : Nib) (b : Bus) : Bus :=
  { b with
    io := { b.io with lcdCtrl := v },
    displayGeneration := if b.io.lcdCtrl = v then b.displayGeneration else b.displayGeneration + 1 }

/-- A write to BZC1 (20_memory.md R80, 60_exceptions.md R353). -/
def bzc1Write (p : Params) (v : Nib) (b : Bus) : Bus :=
  let b := { b with io := { b.io with bzfq := v.extractLsb' 0 3 } }
  buzzerUpdate p (if v.getLsbD 3 then envRestart p b else b)

/-- A write to BZC2 (20_memory.md R80, 60_exceptions.md R354). -/
def bzc2Write (p : Params) (v : Nib) (b : Bus) : Bus :=
  let b := { b with io := { b.io with shtpw := v.getLsbD 2, enrtm := v.getLsbD 1, enon := v.getLsbD 0 } }
  buzzerUpdate p (if v.getLsbD 3 then shotStart p b else b)

/-- A write to CTRL_TM: TMRST clears TM, WDRST does nothing (20_memory.md R81, 60_exceptions.md R332, R381). -/
def ctrlTmWrite (v : Nib) (b : Bus) : Bus :=
  { b with io := { b.io with tm := if v.getLsbD 0 then 0#8 else b.io.tm } }

/-- A write to CTRL_SW: SWRUN is stored, then SWRST clears the digits (20_memory.md R81, 60_exceptions.md R336). -/
def ctrlSwWrite (v : Nib) (b : Bus) : Bus :=
  { b with io := { b.io with
    swrun := v.getLsbD 1,
    swl := if v.getLsbD 0 then 0#4 else b.io.swl,
    swh := if v.getLsbD 0 then 0#4 else b.io.swh } }

/-- A write to CTRL_PT: PTRUN is stored, then PTRST loads RD (20_memory.md R81, 60_exceptions.md R343). -/
def ctrlPtWrite (v : Nib) (b : Bus) : Bus :=
  { b with io := { b.io with
    ptrun := v.getLsbD 0,
    pt := if v.getLsbD 1 then b.io.rd else b.io.pt } }

/-- The effect of a write to a register (20_memory.md R71 to R83). A write to a read-only or read-to-acknowledge register is
ignored (R71, R73). -/
def ioWrite (p : Params) (r : IoReg) (v : Nib) (b : Bus) : Bus :=
  match r with
  | .ift => b
  | .ifsw => b
  | .ifpt => b
  | .ifsio => b
  | .ifk0 => b
  | .ifk1 => b
  | .eit => { b with io := { b.io with eit := v } }
  | .eisw => { b with io := { b.io with eisw := v.extractLsb' 0 2 } }
  | .eipt => { b with io := { b.io with eipt := v.getLsbD 0 } }
  | .eisio => { b with io := { b.io with eisio := v.getLsbD 0 } }
  | .eik0 => { b with io := { b.io with eik0 := v } }
  | .eik1 => { b with io := { b.io with eik1 := v } }
  | .tml => b
  | .tmh => b
  | .swl => b
  | .swh => b
  | .ptl => b
  | .pth => b
  | .rdl => { b with io := { b.io with rd := byteOf (hiNib b.io.rd) v } }
  | .rdh => { b with io := { b.io with rd := byteOf v (loNib b.io.rd) } }
  | .sdl => serialEmit { b with io := { b.io with sd := byteOf (hiNib b.io.sd) v, sioMask := b.io.sioMask ||| 1#2 } }
  | .sdh => serialEmit { b with io := { b.io with sd := byteOf v (loNib b.io.sd), sioMask := b.io.sioMask ||| 2#2 } }
  | .k0 => b
  | .dfk0 => { b with io := { b.io with dfk0 := v } }
  | .k1 => b
  | .r0 => { b with io := { b.io with r0 := v } }
  | .r1 => { b with io := { b.io with r1 := v } }
  | .r2 => { b with io := { b.io with r2 := v } }
  | .r3 => { b with io := { b.io with r3 := v } }
  | .r4 => buzzerUpdate p { b with io := { b.io with r4 := v } }
  | .p0 => { b with io := portWrite p 0 v b.io }
  | .p1 => { b with io := portWrite p 1 v b.io }
  | .p2 => { b with io := portWrite p 2 v b.io }
  | .p3 => { b with io := portWrite p 3 v b.io }
  | .ctrlOsc => { b with io := { b.io with ctrlOsc := v } }
  | .lcdCtrl => lcdWrite v b
  | .lcdContrast => { b with io := { b.io with lcdContrast := v } }
  | .svd => { b with io := { b.io with svd := v } }
  | .bzc1 => bzc1Write p v b
  | .bzc2 => bzc2Write p v b
  | .ctrlTm => ctrlTmWrite v b
  | .ctrlSw => ctrlSwWrite v b
  | .ctrlPt => ctrlPtWrite v b
  | .ptc => { b with io := { b.io with ptc := v.extractLsb' 0 3 } }
  | .sioc => { b with io := { b.io with sioc := v } }
  | .hzc => { b with io := { b.io with hzc := v } }
  | .ioc => { b with io := relatch p { b.io with ioc := v } }
  | .pup => { b with io := { b.io with pup := v } }

end Sys2Proof.Machine
end

