-- ==== Sys2Proof/Machine/Clock.lean ====
section
/-! DEFINITION. The clock network: oscillator ticks, main timer, stopwatch, programmable timer (60_exceptions.md R320 to R342). -/

namespace Sys2Proof.Machine

/-- The factor flags that an increment of the main timer raises: a falling bit 7, 6, 4, 2 raises IT1, IT2, IT8, IT32
(60_exceptions.md R330). -/
def tmFlags (old new : Byte) : Nib :=
  let fell := old &&& ~~~new
  nibOfBits (fell.getLsbD 7) (fell.getLsbD 6) (fell.getLsbD 4) (fell.getLsbD 2)

/-- `MainTimerTick()` (60_exceptions.md R330). -/
def mainTimerTick (p : Params) (b : Bus) : Bus :=
  let r := b.clk.tmResidual - 1
  if r ≤ 0 then
    { b with
      clk := { b.clk with tmResidual := r + p.clkTimerDiv, tmTicks := b.clk.tmTicks + 1 },
      io := { b.io with tm := b.io.tm + 1#8, ift := b.io.ift ||| tmFlags b.io.tm (b.io.tm + 1#8) } }
  else { b with clk := { b.clk with tmResidual := r } }

/-- One count of the running stopwatch (60_exceptions.md R335). -/
def stopwatchCount (io : Io) : Io :=
  if 9 ≤ io.swl.toNat then
    if 9 ≤ io.swh.toNat then { io with swl := 0#4, swh := 0#4, ifsw := io.ifsw ||| 3#2 }
    else { io with swl := 0#4, swh := io.swh + 1#4, ifsw := io.ifsw ||| 1#2 }
  else { io with swl := io.swl + 1#4 }

/-- `StopwatchTick()` (60_exceptions.md R335). -/
def stopwatchTick (p : Params) (b : Bus) : Bus :=
  let r := b.clk.swResidual - 1
  if r ≤ 0 then
    if b.io.swrun then
      { b with
        clk := { b.clk with swResidual := r + p.swDiv, swTicks := b.clk.swTicks + 1 },
        io := stopwatchCount b.io }
    else { b with clk := { b.clk with swResidual := r + p.swDiv } }
  else { b with clk := { b.clk with swResidual := r } }

/-- One count of the running programmable timer (60_exceptions.md R342). -/
def progTimerCount (io : Io) : Io :=
  if io.pt - 1#8 = 0#8 then { io with pt := io.rd, ipt := true } else { io with pt := io.pt - 1#8 }

/-- `PT_DIV[PTC]` (60_exceptions.md R341). -/
def ptDivider (p : Params) (io : Io) : Option Rat := p.ptDiv[io.ptc.toNat]'io.ptc.isLt

/-- `ProgTimerTick()` (60_exceptions.md R342). -/
def progTimerTick (p : Params) (b : Bus) : Bus :=
  match ptDivider p b.io with
  | none => b
  | some d =>
    let r := b.clk.ptResidual - 1
    if r ≤ 0 then
      { b with
        clk := { b.clk with ptResidual := r + d },
        io := if b.io.ptrun then progTimerCount b.io else b.io }
    else { b with clk := { b.clk with ptResidual := r } }

/-- `OscTick()` (60_exceptions.md R322). -/
def oscTick (p : Params) (b : Bus) : Bus :=
  let b := { b with clk := { b.clk with oscTicks := b.clk.oscTicks + 1 } }
  buzzerTick p (progTimerTick p (stopwatchTick p (mainTimerTick p b)))

/-- `n` oscillator ticks. -/
def oscTicks (p : Params) : Nat → Bus → Bus
  | 0, b => b
  | n + 1, b => oscTicks p n (oscTick p b)

/-- `DIV = CPU_HZ / OSC_HZ`, CPU cycles per oscillator tick (60_exceptions.md R320). -/
def oscDiv (p : Params) : Rat := p.cpuHz / p.oscHz

/-- Change only the oscillator residual. -/
def withOscResidual (q : Rat) (b : Bus) : Bus := { b with clk := { b.clk with oscResidual := q } }

/-- The loop of `ClockAdvance`: while the residual is not positive, tick and replenish it by `DIV` (60_exceptions.md R321). The
first argument bounds the rounds (notes/assumptions/7.md). -/
def clockLoop (p : Params) : Nat → Bus → Bus
  | 0, b => b
  | n + 1, b =>
    if b.clk.oscResidual ≤ 0 then
      let b := oscTick p b
      clockLoop p n (withOscResidual (b.clk.oscResidual + oscDiv p) b)
    else b

/-- How many rounds the loop of `ClockAdvance` needs from the residual `r`: the least `n` with `r + n * DIV > 0`. -/
def ticksDue (p : Params) (r : Rat) : Nat := if r ≤ 0 then (-r / oscDiv p).floor.toNat + 1 else 0

/-- `ClockAdvance(c)` (60_exceptions.md R321). -/
def clockAdvance (p : Params) (c : Nat) (b : Bus) : Bus :=
  let r := b.clk.oscResidual - c
  clockLoop p (ticksDue p r) (withOscResidual r b)

end Sys2Proof.Machine
end

