-- ==== Sys2Proof/Machine/Memory.lean ====
section
/-! DEFINITION. Reading and writing the sparse nibble memories that hold RAM and VRAM (10_state.md R32, 20_memory.md R68). -/

namespace Sys2Proof.Machine

/-- The nibble at index `i`; a cell that is not listed holds 0 (10_state.md R32). -/
def Memory.read : Memory → Nat → Nib
  | [], _ => 0#4
  | (j, w) :: m, i => if i = j then w else Memory.read m i

/-- Store a nibble at index `i`, keeping the canonical form. -/
def Memory.write : Memory → Nat → Nib → Memory
  | [], i, v => if v = 0#4 then [] else [(i, v)]
  | (j, w) :: m, i, v =>
    if i < j then (if v = 0#4 then (j, w) :: m else (i, v) :: (j, w) :: m)
    else if i = j then (if v = 0#4 then m else (i, v) :: m)
    else (j, w) :: Memory.write m i v

/-- The canonical form of the cells above a bound: strictly rising indices below `size`, no cell 0. -/
def Memory.wfFrom (size : Nat) : Nat → Memory → Bool
  | _, [] => true
  | lo, (j, w) :: m => decide (lo ≤ j) && decide (j < size) && decide (w ≠ 0#4) && Memory.wfFrom size (j + 1) m

/-- The canonical form of a memory of `size` nibbles. -/
def Memory.wf (size : Nat) (m : Memory) : Bool := Memory.wfFrom size 0 m

end Sys2Proof.Machine
end

