-- ==== Sys2Proof/Machine/Ops.lean ====
section
/-! DEFINITION. The shared operations: data memory (00_scope.md R13, 20_memory.md), the program counter, the stack, interrupt
entry and the return (00_scope.md R16, 41_branch.md R160, R163, 60_exceptions.md R306). -/

namespace Sys2Proof.Machine

/-! ## Data memory -/

/-- The value a read of a data address returns (20_memory.md R63 to R67). -/
def peek (p : Params) (a : Addr) (b : Bus) : Nib :=
  match regionOf a with
  | .ram i => Memory.read b.ram i
  | .vram i => Memory.read b.vram i
  | .io r => ioValue p r b
  | .unmapped => 0#4

/-- What a read of a data address changes: it acknowledges a factor-flag register (20_memory.md R73). -/
def ack (a : Addr) (b : Bus) : Bus :=
  match regionOf a with
  | .io r => ioAck r b
  | _ => b

/-- A VRAM write counts the display generation exactly when it changes the stored value (20_memory.md R69). -/
def vramWrite (i : Nat) (v : Nib) (b : Bus) : Bus :=
  { b with
    vram := Memory.write b.vram i v,
    displayGeneration := if Memory.read b.vram i = v then b.displayGeneration else b.displayGeneration + 1 }

/-- The effect of a write to a data address (20_memory.md R63 to R83); a write to an unmapped address is ignored (R67). -/
def busWrite (p : Params) (a : Addr) (v : Nib) (b : Bus) : Bus :=
  match regionOf a with
  | .ram i => { b with ram := Memory.write b.ram i v }
  | .vram i => vramWrite i v b
  | .io r => ioWrite p r v b
  | .unmapped => b

/-- `MemRead(a, 1)` (00_scope.md R13). -/
def memRead (a : Addr) (s : State) : Nib × State := (peek s.params a s.bus, { s with bus := ack a s.bus })

/-- `MemWrite(a, 1, v)` (00_scope.md R13). -/
def memWrite (a : Addr) (v : Nib) (s : State) : State := { s with bus := busWrite s.params a v s.bus }

/-! ## Addresses and index registers -/

/-- `IX = XP : XH : XL` (10_state.md R21). -/
def Cpu.ix (c : Cpu) : Addr := c.xp ++ byteOf c.xh c.xl

/-- `IY = YP : YH : YL` (10_state.md R21). -/
def Cpu.iy (c : Cpu) : Addr := c.yp ++ byteOf c.yh c.yl

/-- `zext_12(SP)` and the like: the data address of an 8-bit stack pointer (00_scope.md R13, 10_state.md R22). -/
def stackAddr (sp : Byte) : Addr := sp.setWidth 12

/-- `zext_12(n)`: the data address of the operand `Mn` (30_encoding.md R132). -/
def nibAddr (n : Nib) : Addr := n.setWidth 12

/-- Load the 8-bit `X = XH : XL`; `XP` is unchanged (43_index.md R182). -/
def Cpu.setX (c : Cpu) (v : Byte) : Cpu := { c with xh := hiNib v, xl := loNib v }

/-- Load the 8-bit `Y = YH : YL`; `YP` is unchanged (43_index.md R183). -/
def Cpu.setY (c : Cpu) (v : Byte) : Cpu := { c with yh := hiNib v, yl := loNib v }

/-- `incX()` (00_scope.md R16, 43_index.md R181). -/
def incX (s : State) : State := { s with cpu := s.cpu.setX (byteOf s.cpu.xh s.cpu.xl + 1#8) }

/-- `incY()` (00_scope.md R16, 43_index.md R181). -/
def incY (s : State) : State := { s with cpu := s.cpu.setY (byteOf s.cpu.yh s.cpu.yl + 1#8) }

/-! ## The program counter -/

/-- `succ(p)`: the low 12 bits count modulo 4096, the bank bit is kept (00_scope.md R16, 10_state.md R24). -/
def succ (p : PcWord) : PcWord := p.extractLsb' 12 1 ++ (p.extractLsb' 0 12 + 1#12)

/-- An address of a bank bit and the 12 bits below it. -/
def bankAddr (bank : BitVec 1) (low : BitVec 12) : PcWord := bank ++ low

/-- `PC <- target ; cycles <- n`. -/
def jump (target : PcWord) (n : Nat) (s : State) : State := { s with cpu := { s.cpu with pc := target }, cost := n }

/-- `PC <- succ(PC) ; cycles <- n`. -/
def advance (n : Nat) (s : State) : State := jump (succ s.cpu.pc) n s

/-- The jump target `NPC[12:8] : s` (41_branch.md R151). -/
def jumpTarget (c : Cpu) (s : Byte) : PcWord := (c.npc.extractLsb' 8 5 ++ s : BitVec 13)

/-! ## The stack -/

/-- `Push(v)` (00_scope.md R16). -/
def push (v : Nib) (s : State) : State :=
  memWrite (stackAddr (s.cpu.sp - 1#8)) v { s with cpu := { s.cpu with sp := s.cpu.sp - 1#8 } }

/-- `Pop()` (00_scope.md R16). -/
def pop (s : State) : Nib × State :=
  let r := memRead (stackAddr s.cpu.sp) s
  (r.1, { r.2 with cpu := { r.2.cpu with sp := r.2.cpu.sp + 1#8 } })

/-- Push the return address `r[11:0]`: three nibbles at `SP-1`, `SP-2`, `SP-3`, the most significant first, then `SP <- SP - 3`
(41_branch.md R158, R163). -/
def pushReturn (r : PcWord) (s : State) : State :=
  let sp := s.cpu.sp
  let s := memWrite (stackAddr (sp - 1#8)) (r.extractLsb' 8 4) s
  let s := memWrite (stackAddr (sp - 2#8)) (r.extractLsb' 4 4) s
  let s := memWrite (stackAddr (sp - 3#8)) (r.extractLsb' 0 4) s
  { s with cpu := { s.cpu with sp := sp - 3#8 } }

/-! ## Taking an interrupt, and the return from it -/

/-- The vector of a source (60_exceptions.md R304). -/
def IntSource.vector : IntSource → Byte
  | .pt => 0x0C#8
  | .sio => 0x0A#8
  | .k1 => 0x08#8
  | .k0 => 0x06#8
  | .sw => 0x04#8
  | .tm => 0x02#8

/-- The handler's address: page 1 of the current bank, step `VEC` (60_exceptions.md R306). -/
def handlerAddr (pc : PcWord) (src : IntSource) : PcWord := bankAddr (pc.extractLsb' 12 1) (0x1#4 ++ src.vector)

/-- One more entry of a source (60_exceptions.md R306, R314). -/
def IntCounts.bump (c : IntCounts) : IntSource → IntCounts
  | .pt => { c with pt := c.pt + 1 }
  | .sio => { c with sio := c.sio + 1 }
  | .k1 => { c with k1 := c.k1 + 1 }
  | .k0 => { c with k0 := c.k0 + 1 }
  | .sw => { c with sw := c.sw + 1 }
  | .tm => { c with tm := c.tm + 1 }

/-- Interrupt entry: push `PC[11:0]`, clear `I` and `halt`, go to the handler, keep `NPC` with `PC`, count the entry and add
`INT_CYCLES` to the step's cost (60_exceptions.md R306). The factor flag is not cleared (R309). -/
def enterInterrupt (src : IntSource) (s : State) : State :=
  let s := pushReturn s.cpu.pc s
  let target := handlerAddr s.cpu.pc src
  { s with
    cpu := { s.cpu with fI := false, halt := false, pc := target, npc := target },
    diag := { s.diag with
      interruptCount := s.diag.interruptCount + 1, lastVector := target.extractLsb' 0 12,
      counts := s.diag.counts.bump src },
    cost := s.cost + s.params.intCycles }

/-- The return from a subroutine or an interrupt: three nibbles from `SP`, `SP+1`, `SP+2`, then `SP <- SP + 3`, the bank bit kept
(41_branch.md R160, 60_exceptions.md R310). -/
def popReturn (s : State) : State :=
  let sp := s.cpu.sp
  let lo := memRead (stackAddr sp) s
  let mid := memRead (stackAddr (sp + 1#8)) lo.2
  let hi := memRead (stackAddr (sp + 2#8)) mid.2
  let s := hi.2
  { s with cpu := { s.cpu with
    sp := sp + 3#8, pc := bankAddr (s.cpu.pc.extractLsb' 12 1) (hi.1 ++ byteOf mid.1 lo.1) } }

end Sys2Proof.Machine
end

