-- ==== Sys2Proof/Machine/Flags.lean ====
section
/-! DEFINITION. The flag register (10_state.md R26, R27), the additions, subtractions and rotates with their carries
(47_arith.md R250, R251, R273, R274) and the zero flag (R253). -/

namespace Sys2Proof.Machine

/-- `F = I : D : Z : C` (10_state.md R27). -/
def Cpu.flags (c : Cpu) : Nib := nibOfBits c.fI c.fD c.fZ c.fC

/-- Write the whole flag register (10_state.md R27). -/
def Cpu.setFlags (c : Cpu) (v : Nib) : Cpu :=
  { c with fI := v.getLsbD 3, fD := v.getLsbD 2, fZ := v.getLsbD 1, fC := v.getLsbD 0 }

/-- `add4(a, b, cin, dec)`: the result and the carry (47_arith.md R250). -/
def add4 (a b : Nib) (cin dec : Bool) : Nib × Bool :=
  let t := a.toNat + b.toNat + cin.toNat
  if dec then
    if t > 9 then (BitVec.ofNat 4 (t + 6), true) else (BitVec.ofNat 4 t, false)
  else (BitVec.ofNat 4 t, decide (t ≥ 16))

/-- `sub4(a, b, bin, dec)`: the result and the borrow (47_arith.md R251). -/
def sub4 (a b : Nib) (bin dec : Bool) : Nib × Bool :=
  let t : Int := (a.toNat : Int) - b.toNat - bin.toNat
  if t < 0 then
    if dec then (BitVec.ofInt 4 (t + 10), true) else (BitVec.ofInt 4 (t + 16), true)
  else (BitVec.ofInt 4 t, false)

/-- The result and the shifted-out bit of a rotate left through carry: `v[2:0] : C` and `v[3]` (47_arith.md R273). -/
def rotLeft (v : Nib) (c : Bool) : Nib × Bool := (v.extractLsb' 0 3 ++ BitVec.ofBool c, v.getLsbD 3)

/-- The result and the shifted-out bit of a rotate right through carry: `C : v[3:1]` and `v[0]` (47_arith.md R274). -/
def rotRight (v : Nib) (c : Bool) : Nib × Bool := (BitVec.ofBool c ++ v.extractLsb' 1 3, v.getLsbD 0)

/-- `Z <- (res = 0)` (47_arith.md R253). -/
def setZ (res : Nib) (s : State) : State := { s with cpu := { s.cpu with fZ := decide (res = 0#4) } }

/-- `C <- c ; Z <- (res = 0)` (47_arith.md R253). -/
def setCZ (x : Nib × Bool) (s : State) : State :=
  { s with cpu := { s.cpu with fC := x.2, fZ := decide (x.1 = 0#4) } }

/-- The flags of a rotate: `C`, and `Z` when `ROT_WRITES_Z` (47_arith.md R273, R274). -/
def setRotFlags (x : Nib × Bool) (s : State) : State :=
  { s with cpu := { s.cpu with fC := x.2, fZ := if s.params.rotWritesZ then decide (x.1 = 0#4) else s.cpu.fZ } }

end Sys2Proof.Machine
end

