-- ==== Sys2Proof/Syntax.lean ====
section
/-! DEFINITION. The instructions of VPGM-CORE: one constructor for each mnemonic of spec/opcode_table.json, in the table's order
(30_encoding.md R133), then one for each alias spelling of R136 (notes/assumptions/10.md). -/

namespace Sys2Proof

/-- An operand selector (00_scope.md R14): A, B, MX = M(IX), MY = M(IY). -/
inductive Sel where
  | a
  | b
  | mx
  | my
deriving DecidableEq, Repr

/-- The instructions. A docstring names the row, its opcode values and the rule that gives the semantics. -/
inductive Instr where
  /-- `JP s`, 0x000 to 0x0FF (41_branch.md R151). -/
  | jp (s : Byte)
  /-- `RETD e`, 0x100 to 0x1FF (41_branch.md R162). -/
  | retd (e : Byte)
  /-- `JP C,s`, 0x200 to 0x2FF (41_branch.md R152). -/
  | jpC (s : Byte)
  /-- `JP NC,s`, 0x300 to 0x3FF (41_branch.md R153). -/
  | jpNC (s : Byte)
  /-- `CALL s`, 0x400 to 0x4FF (41_branch.md R158). -/
  | call (s : Byte)
  /-- `CALZ s`, 0x500 to 0x5FF (41_branch.md R159). -/
  | calz (s : Byte)
  /-- `JP Z,s`, 0x600 to 0x6FF (41_branch.md R154). -/
  | jpZ (s : Byte)
  /-- `JP NZ,s`, 0x700 to 0x7FF (41_branch.md R155). -/
  | jpNZ (s : Byte)
  /-- `LD Y,e`, 0x800 to 0x8FF (43_index.md R183). -/
  | ldY (e : Byte)
  /-- `LBPX MX,e`, 0x900 to 0x9FF (44_transfer.md R210). -/
  | lbpx (e : Byte)
  /-- `ADC XH,i`, 0xA00 to 0xA0F (43_index.md R190). -/
  | adcXH (i : Nib)
  /-- `ADC XL,i`, 0xA10 to 0xA1F (43_index.md R190). -/
  | adcXL (i : Nib)
  /-- `ADC YH,i`, 0xA20 to 0xA2F (43_index.md R190). -/
  | adcYH (i : Nib)
  /-- `ADC YL,i`, 0xA30 to 0xA3F (43_index.md R190). -/
  | adcYL (i : Nib)
  /-- `CP XH,i`, 0xA40 to 0xA4F (43_index.md R191). -/
  | cpXH (i : Nib)
  /-- `CP XL,i`, 0xA50 to 0xA5F (43_index.md R191). -/
  | cpXL (i : Nib)
  /-- `CP YH,i`, 0xA60 to 0xA6F (43_index.md R191). -/
  | cpYH (i : Nib)
  /-- `CP YL,i`, 0xA70 to 0xA7F (43_index.md R191). -/
  | cpYL (i : Nib)
  /-- `ADD r,q`, 0xA80 to 0xA8F (47_arith.md R256). -/
  | addRQ (r q : Sel)
  /-- `ADC r,q`, 0xA90 to 0xA9F (47_arith.md R258). -/
  | adcRQ (r q : Sel)
  /-- `SUB r,q`, 0xAA0 to 0xAAF (47_arith.md R259). -/
  | subRQ (r q : Sel)
  /-- `SBC r,q`, 0xAB0 to 0xABF (47_arith.md R261). -/
  | sbcRQ (r q : Sel)
  /-- `AND r,q`, 0xAC0 to 0xACF (47_arith.md R263). -/
  | andRQ (r q : Sel)
  /-- `OR r,q`, 0xAD0 to 0xADF (47_arith.md R265). -/
  | orRQ (r q : Sel)
  /-- `XOR r,q`, 0xAE0 to 0xAEF (47_arith.md R267). -/
  | xorRQ (r q : Sel)
  /-- `RLC r`, 0xAF0, 0xAF5, 0xAFA, 0xAFF (47_arith.md R273). -/
  | rlc (r : Sel)
  /-- `undefined`, the 73 values of 30_encoding.md R134; `op` is the value (42_system.md R176). -/
  | undefined (op : Opcode)
  /-- `LD X,e`, 0xB00 to 0xBFF (43_index.md R182). -/
  | ldX (e : Byte)
  /-- `ADD r,i`, 0xC00 to 0xC3F (47_arith.md R255). -/
  | addRI (r : Sel) (i : Nib)
  /-- `ADC r,i`, 0xC40 to 0xC7F (47_arith.md R257). -/
  | adcRI (r : Sel) (i : Nib)
  /-- `AND r,i`, 0xC80 to 0xCBF (47_arith.md R262). -/
  | andRI (r : Sel) (i : Nib)
  /-- `OR r,i`, 0xCC0 to 0xCFF (47_arith.md R264). -/
  | orRI (r : Sel) (i : Nib)
  /-- `XOR r,i`, 0xD00 to 0xD3F (47_arith.md R266). -/
  | xorRI (r : Sel) (i : Nib)
  /-- `SBC r,i`, 0xD40 to 0xD7F (47_arith.md R260). -/
  | sbcRI (r : Sel) (i : Nib)
  /-- `FAN r,i`, 0xD80 to 0xDBF (47_arith.md R270). -/
  | fanRI (r : Sel) (i : Nib)
  /-- `CP r,i`, 0xDC0 to 0xDFF (47_arith.md R268). -/
  | cpRI (r : Sel) (i : Nib)
  /-- `LD r,i`, 0xE00 to 0xE3F (44_transfer.md R200). -/
  | ldRI (r : Sel) (i : Nib)
  /-- `PSET p`, 0xE40 to 0xE5F (41_branch.md R150). -/
  | pset (p : BitVec 5)
  /-- `LDPX MX,i`, 0xE60 to 0xE6F (44_transfer.md R206). -/
  | ldpxI (i : Nib)
  /-- `LDPY MY,i`, 0xE70 to 0xE7F (44_transfer.md R208). -/
  | ldpyI (i : Nib)
  /-- `LD XP,r`, 0xE80 to 0xE83 (43_index.md R186). -/
  | ldXP (r : Sel)
  /-- `LD XH,r`, 0xE84 to 0xE87 (43_index.md R186). -/
  | ldXH (r : Sel)
  /-- `LD XL,r`, 0xE88 to 0xE8B (43_index.md R186). -/
  | ldXL (r : Sel)
  /-- `RRC r`, 0xE8C to 0xE8F (47_arith.md R274). -/
  | rrc (r : Sel)
  /-- `LD YP,r`, 0xE90 to 0xE93 (43_index.md R187). -/
  | ldYP (r : Sel)
  /-- `LD YH,r`, 0xE94 to 0xE97 (43_index.md R187). -/
  | ldYH (r : Sel)
  /-- `LD YL,r`, 0xE98 to 0xE9B (43_index.md R187). -/
  | ldYL (r : Sel)
  /-- `LD r,XP`, 0xEA0 to 0xEA3 (43_index.md R188). -/
  | ldRXP (r : Sel)
  /-- `LD r,XH`, 0xEA4 to 0xEA7 (43_index.md R188). -/
  | ldRXH (r : Sel)
  /-- `LD r,XL`, 0xEA8 to 0xEAB (43_index.md R188). -/
  | ldRXL (r : Sel)
  /-- `LD r,YP`, 0xEB0 to 0xEB3 (43_index.md R189). -/
  | ldRYP (r : Sel)
  /-- `LD r,YH`, 0xEB4 to 0xEB7 (43_index.md R189). -/
  | ldRYH (r : Sel)
  /-- `LD r,YL`, 0xEB8 to 0xEBB (43_index.md R189). -/
  | ldRYL (r : Sel)
  /-- `LD r,q`, 0xEC0 to 0xECF (44_transfer.md R201). -/
  | ldRQ (r q : Sel)
  /-- `LDPX r,q`, 0xEE0 to 0xEEF (44_transfer.md R207). -/
  | ldpxRQ (r q : Sel)
  /-- `LDPY r,q`, 0xEF0 to 0xEFF (44_transfer.md R209). -/
  | ldpyRQ (r q : Sel)
  /-- `CP r,q`, 0xF00 to 0xF0F (47_arith.md R269). -/
  | cpRQ (r q : Sel)
  /-- `FAN r,q`, 0xF10 to 0xF1F (47_arith.md R271). -/
  | fanRQ (r q : Sel)
  /-- `ACPX MX,r`, 0xF28 to 0xF2B (47_arith.md R277). -/
  | acpx (r : Sel)
  /-- `ACPY MY,r`, 0xF2C to 0xF2F (47_arith.md R278). -/
  | acpy (r : Sel)
  /-- `SCPX MX,r`, 0xF38 to 0xF3B (47_arith.md R279). -/
  | scpx (r : Sel)
  /-- `SCPY MY,r`, 0xF3C to 0xF3F (47_arith.md R280). -/
  | scpy (r : Sel)
  /-- `SET F,i`, 0xF40 to 0xF4F (45_flag.md R220). -/
  | setF (i : Nib)
  /-- `RST F,i`, 0xF50 to 0xF5F (45_flag.md R221). -/
  | rstF (i : Nib)
  /-- `INC Mn`, 0xF60 to 0xF6F (47_arith.md R275). -/
  | incM (n : Nib)
  /-- `DEC Mn`, 0xF70 to 0xF7F (47_arith.md R276). -/
  | decM (n : Nib)
  /-- `LD Mn,A`, 0xF80 to 0xF8F (44_transfer.md R204). -/
  | ldMA (n : Nib)
  /-- `LD Mn,B`, 0xF90 to 0xF9F (44_transfer.md R205). -/
  | ldMB (n : Nib)
  /-- `LD A,Mn`, 0xFA0 to 0xFAF (44_transfer.md R202). -/
  | ldAM (n : Nib)
  /-- `LD B,Mn`, 0xFB0 to 0xFBF (44_transfer.md R203). -/
  | ldBM (n : Nib)
  /-- `PUSH r`, 0xFC0 to 0xFC3 (46_stack.md R232). -/
  | push (r : Sel)
  /-- `PUSH XP`, 0xFC4 (46_stack.md R234). -/
  | pushXP
  /-- `PUSH XH`, 0xFC5 (46_stack.md R234). -/
  | pushXH
  /-- `PUSH XL`, 0xFC6 (46_stack.md R234). -/
  | pushXL
  /-- `PUSH YP`, 0xFC7 (46_stack.md R234). -/
  | pushYP
  /-- `PUSH YH`, 0xFC8 (46_stack.md R234). -/
  | pushYH
  /-- `PUSH YL`, 0xFC9 (46_stack.md R234). -/
  | pushYL
  /-- `PUSH F`, 0xFCA (46_stack.md R236). -/
  | pushF
  /-- `DEC SP`, 0xFCB (46_stack.md R231). -/
  | decSP
  /-- `POP r`, 0xFD0 to 0xFD3 (46_stack.md R233). -/
  | pop (r : Sel)
  /-- `POP XP`, 0xFD4 (46_stack.md R235). -/
  | popXP
  /-- `POP XH`, 0xFD5 (46_stack.md R235). -/
  | popXH
  /-- `POP XL`, 0xFD6 (46_stack.md R235). -/
  | popXL
  /-- `POP YP`, 0xFD7 (46_stack.md R235). -/
  | popYP
  /-- `POP YH`, 0xFD8 (46_stack.md R235). -/
  | popYH
  /-- `POP YL`, 0xFD9 (46_stack.md R235). -/
  | popYL
  /-- `POP F`, 0xFDA (46_stack.md R237). -/
  | popF
  /-- `INC SP`, 0xFDB (46_stack.md R230). -/
  | incSP
  /-- `RETS`, 0xFDE (41_branch.md R161). -/
  | rets
  /-- `RET`, 0xFDF (41_branch.md R160). -/
  | ret
  /-- `LD SPH,r`, 0xFE0 to 0xFE3 (46_stack.md R239). -/
  | ldSPH (r : Sel)
  /-- `LD r,SPH`, 0xFE4 to 0xFE7 (46_stack.md R241). -/
  | ldRSPH (r : Sel)
  /-- `JPBA`, 0xFE8 (41_branch.md R157). -/
  | jpba
  /-- `LD SPL,r`, 0xFF0 to 0xFF3 (46_stack.md R240). -/
  | ldSPL (r : Sel)
  /-- `LD r,SPL`, 0xFF4 to 0xFF7 (46_stack.md R242). -/
  | ldRSPL (r : Sel)
  /-- `HALT`, 0xFF8 (42_system.md R172). -/
  | halt
  /-- `SLP`, 0xFF9 (42_system.md R173). -/
  | slp
  /-- `NOP5`, 0xFFB (42_system.md R170). -/
  | nop5
  /-- `NOP7`, 0xFFF (42_system.md R171). -/
  | nop7
  /-- `SCF`, a spelling of `SET F,0x1`, 0xF41 (30_encoding.md R136; 45_flag.md R220). -/
  | scf
  /-- `SZF`, a spelling of `SET F,0x2`, 0xF42 (30_encoding.md R136; 45_flag.md R220). -/
  | szf
  /-- `SDF`, a spelling of `SET F,0x4`, 0xF44 (30_encoding.md R136; 45_flag.md R220). -/
  | sdf
  /-- `EI`, a spelling of `SET F,0x8`, 0xF48 (30_encoding.md R136; 45_flag.md R220). -/
  | ei
  /-- `RCF`, a spelling of `RST F,0xE`, 0xF5E (30_encoding.md R136; 45_flag.md R221). -/
  | rcf
  /-- `RZF`, a spelling of `RST F,0xD`, 0xF5D (30_encoding.md R136; 45_flag.md R221). -/
  | rzf
  /-- `RDF`, a spelling of `RST F,0xB`, 0xF5B (30_encoding.md R136; 45_flag.md R221). -/
  | rdf
  /-- `DI`, a spelling of `RST F,0x7`, 0xF57 (30_encoding.md R136; 45_flag.md R221). -/
  | di
  /-- `INC X`, a spelling of `LDPX A,A`, 0xEE0 (30_encoding.md R136; 44_transfer.md R207). -/
  | incX
  /-- `INC Y`, a spelling of `LDPY A,A`, 0xEF0 (30_encoding.md R136; 44_transfer.md R209). -/
  | incY
  /-- `NOT A`, a spelling of `XOR A,0xF`, 0xD0F (30_encoding.md R136; 47_arith.md R266). -/
  | notA
  /-- `NOT B`, a spelling of `XOR B,0xF`, 0xD1F (30_encoding.md R136; 47_arith.md R266). -/
  | notB
  /-- `NOT MX`, a spelling of `XOR MX,0xF`, 0xD2F (30_encoding.md R136; 47_arith.md R266). -/
  | notMX
  /-- `NOT MY`, a spelling of `XOR MY,0xF`, 0xD3F (30_encoding.md R136; 47_arith.md R266). -/
  | notMY
deriving DecidableEq, Repr

end Sys2Proof
end

