-- ==== Sys2Proof/Machine/Operands.lean ====
section
/-! DEFINITION. The operand forms (00_scope.md R14) and the instruction shapes over them. Every access of MX, MY or Mn goes
through the memory map with its side effects (44_transfer.md). -/

namespace Sys2Proof.Machine

/-- `Opnd(k)` (00_scope.md R14). -/
def opnd (k : Sel) (s : State) : Nib × State :=
  match k with
  | .a => (s.cpu.a, s)
  | .b => (s.cpu.b, s)
  | .mx => memRead s.cpu.ix s
  | .my => memRead s.cpu.iy s

/-- `SetOpnd(k, v)` (00_scope.md R14). -/
def setOpnd (k : Sel) (v : Nib) (s : State) : State :=
  match k with
  | .a => { s with cpu := { s.cpu with a := v } }
  | .b => { s with cpu := { s.cpu with b := v } }
  | .mx => memWrite s.cpu.ix v s
  | .my => memWrite s.cpu.iy v s

/-- The six index nibbles (10_state.md R21). -/
inductive IxNib where
  | xp
  | xh
  | xl
  | yp
  | yh
  | yl
deriving DecidableEq, Repr

/-- Read an index nibble. -/
def Cpu.getIx (c : Cpu) : IxNib → Nib
  | .xp => c.xp
  | .xh => c.xh
  | .xl => c.xl
  | .yp => c.yp
  | .yh => c.yh
  | .yl => c.yl

/-- Write an index nibble; the other five are unchanged. -/
def Cpu.setIx (c : Cpu) (k : IxNib) (v : Nib) : Cpu :=
  match k with
  | .xp => { c with xp := v }
  | .xh => { c with xh := v }
  | .xl => { c with xl := v }
  | .yp => { c with yp := v }
  | .yh => { c with yh := v }
  | .yl => { c with yl := v }

/-- `reg <- v` for an index nibble. -/
def setIx (k : IxNib) (v : Nib) (s : State) : State := { s with cpu := s.cpu.setIx k v }

/-- The operands of `r,q`, the destination operand first (47_arith.md R254). -/
def opnds (r q : Sel) (s : State) : Nib × Nib × State :=
  let x := opnd r s
  let y := opnd q x.2
  (x.1, y.1, y.2)

/-- Write a result to `r` with the flags C and Z, then advance with `n` cycles. -/
def resultCZ (r : Sel) (x : Nib × Bool) (n : Nat) (s : State) : State := advance n (setCZ x (setOpnd r x.1 s))

/-- Write a result to `r` with the flag Z, then advance with `n` cycles. -/
def resultZ (r : Sel) (v : Nib) (n : Nat) (s : State) : State := advance n (setZ v (setOpnd r v s))

end Sys2Proof.Machine
end

