-- ==== Sys2Proof/Machine/Branch.lean ====
section
/-! DEFINITION. Branch, call and return instructions (41_branch.md). Every meaning answers a next state; `NPC <- PC` is the step's
(60_exceptions.md R300). -/

namespace Sys2Proof.Machine

/-- The outcome of one instruction. -/
abbrev Result := Host.Outcome State Fault Refusal

/-- Jump to `NPC[12:8] : s` when the condition holds, else advance; 5 cycles either way (41_branch.md R152). -/
def condJump (cond : Bool) (step : Byte) (s : State) : State :=
  if cond then jump (jumpTarget s.cpu step) 5 s else advance 5 s

/-- Push the return address and go to `page : step` in the current bank, 7 cycles (41_branch.md R158, R159). -/
def callTo (page : Nib) (step : Byte) (s : State) : State :=
  jump (bankAddr (s.cpu.pc.extractLsb' 12 1) (page ++ step)) 7 (pushReturn (succ s.cpu.pc) s)

/-- Store a byte at X, low nibble first, incrementing X after each nibble (41_branch.md R162, 44_transfer.md R210). -/
def storeByteX (e : Byte) (s : State) : State :=
  let s := incX (memWrite s.cpu.ix (loNib e) s)
  incX (memWrite s.cpu.ix (hiNib e) s)

/-- `PSET p` (41_branch.md R150). -/
def execPset (p : BitVec 5) (s : State) : Result :=
  let pc := succ s.cpu.pc
  .next { s with cpu := { s.cpu with pc := pc, npc := (p ++ pc.extractLsb' 0 8 : BitVec 13) }, cost := 5 }

/-- `JP s` (41_branch.md R151). -/
def execJp (step : Byte) (s : State) : Result := .next (jump (jumpTarget s.cpu step) 5 s)

/-- `JP C,s` (41_branch.md R152). -/
def execJpC (step : Byte) (s : State) : Result := .next (condJump s.cpu.fC step s)

/-- `JP NC,s` (41_branch.md R153). -/
def execJpNC (step : Byte) (s : State) : Result := .next (condJump (!s.cpu.fC) step s)

/-- `JP Z,s` (41_branch.md R154). -/
def execJpZ (step : Byte) (s : State) : Result := .next (condJump s.cpu.fZ step s)

/-- `JP NZ,s` (41_branch.md R155). -/
def execJpNZ (step : Byte) (s : State) : Result := .next (condJump (!s.cpu.fZ) step s)

/-- `JPBA` (41_branch.md R157). -/
def execJpba (s : State) : Result := .next (jump (jumpTarget s.cpu (byteOf s.cpu.b s.cpu.a)) 5 s)

/-- `CALL s`: the pending page, the current bank (41_branch.md R158). -/
def execCall (step : Byte) (s : State) : Result := .next (callTo (s.cpu.npc.extractLsb' 8 4) step s)

/-- `CALZ s`: page 0, the current bank (41_branch.md R159). -/
def execCalz (step : Byte) (s : State) : Result := .next (callTo 0x0#4 step s)

/-- `RET` (41_branch.md R160). -/
def execRet (s : State) : Result := .next { popReturn s with cost := 7 }

/-- `RETS` (41_branch.md R161). -/
def execRets (s : State) : Result := .next (advance 12 (popReturn s))

/-- `RETD e` (41_branch.md R162). -/
def execRetd (e : Byte) (s : State) : Result := .next { storeByteX e (popReturn s) with cost := 12 }

end Sys2Proof.Machine
end

