-- ==== Sys2Proof/Machine/Arith.lean ====
section
/-! DEFINITION. Arithmetic, logic, compare and rotate instructions (47_arith.md), NOT among them (30_encoding.md R136). -/

namespace Sys2Proof.Machine

/-- `r <- f(Opnd(r), i)` with C and Z, 7 cycles (47_arith.md R255, R257, R260). -/
def arithImm (f : Nib → Nib → Nib × Bool) (r : Sel) (i : Nib) (s : State) : State :=
  let x := opnd r s
  resultCZ r (f x.1 i) 7 x.2

/-- `r <- f(Opnd(r), Opnd(q))` with C and Z, 7 cycles (47_arith.md R256, R258, R259, R261). -/
def arithOpnd (f : Nib → Nib → Nib × Bool) (r q : Sel) (s : State) : State :=
  let x := opnds r q s
  resultCZ r (f x.1 x.2.1) 7 x.2.2

/-- `r <- f(Opnd(r), i)` with Z only, 7 cycles (47_arith.md R262, R264, R266). -/
def logicImm (f : Nib → Nib → Nib) (r : Sel) (i : Nib) (s : State) : State :=
  let x := opnd r s
  resultZ r (f x.1 i) 7 x.2

/-- `r <- f(Opnd(r), Opnd(q))` with Z only, 7 cycles (47_arith.md R263, R265, R267). -/
def logicOpnd (f : Nib → Nib → Nib) (r q : Sel) (s : State) : State :=
  let x := opnds r q s
  resultZ r (f x.1 x.2.1) 7 x.2.2

/-- A rotate: `r <- f(Opnd(r), C)`, `n` cycles; the operand is read once (47_arith.md R273, R274). -/
def rotate (f : Nib → Bool → Nib × Bool) (r : Sel) (n : Nat) (s : State) : State :=
  let x := opnd r s
  let y := f x.1 s.cpu.fC
  advance n (setRotFlags y (setOpnd r y.1 x.2))

/-- `M(n) <- f(M(n))` with C and Z, 7 cycles (47_arith.md R275, R276). -/
def countMem (f : Nib → Nib × Bool) (n : Nib) (s : State) : State :=
  let x := memRead (nibAddr n) s
  let y := f x.1
  advance 7 (setCZ y (memWrite (nibAddr n) y.1 x.2))

/-- `ADD r,i` (47_arith.md R255). -/
def execAddRI (r : Sel) (i : Nib) (s : State) : Result :=
  .next (arithImm (fun a b => add4 a b false s.cpu.fD) r i s)

/-- `ADD r,q` (47_arith.md R256). -/
def execAddRQ (r q : Sel) (s : State) : Result :=
  .next (arithOpnd (fun a b => add4 a b false s.cpu.fD) r q s)

/-- `ADC r,i` (47_arith.md R257). -/
def execAdcRI (r : Sel) (i : Nib) (s : State) : Result :=
  .next (arithImm (fun a b => add4 a b s.cpu.fC s.cpu.fD) r i s)

/-- `ADC r,q` (47_arith.md R258). -/
def execAdcRQ (r q : Sel) (s : State) : Result :=
  .next (arithOpnd (fun a b => add4 a b s.cpu.fC s.cpu.fD) r q s)

/-- `SUB r,q` (47_arith.md R259). -/
def execSubRQ (r q : Sel) (s : State) : Result :=
  .next (arithOpnd (fun a b => sub4 a b false s.cpu.fD) r q s)

/-- `SBC r,i` (47_arith.md R260). -/
def execSbcRI (r : Sel) (i : Nib) (s : State) : Result :=
  .next (arithImm (fun a b => sub4 a b s.cpu.fC s.cpu.fD) r i s)

/-- `SBC r,q` (47_arith.md R261). -/
def execSbcRQ (r q : Sel) (s : State) : Result :=
  .next (arithOpnd (fun a b => sub4 a b s.cpu.fC s.cpu.fD) r q s)

/-- `AND r,i` (47_arith.md R262). -/
def execAndRI (r : Sel) (i : Nib) (s : State) : Result := .next (logicImm (fun a b => a &&& b) r i s)

/-- `AND r,q` (47_arith.md R263). -/
def execAndRQ (r q : Sel) (s : State) : Result := .next (logicOpnd (fun a b => a &&& b) r q s)

/-- `OR r,i` (47_arith.md R264). -/
def execOrRI (r : Sel) (i : Nib) (s : State) : Result := .next (logicImm (fun a b => a ||| b) r i s)

/-- `OR r,q` (47_arith.md R265). -/
def execOrRQ (r q : Sel) (s : State) : Result := .next (logicOpnd (fun a b => a ||| b) r q s)

/-- `XOR r,i` (47_arith.md R266). -/
def execXorRI (r : Sel) (i : Nib) (s : State) : Result := .next (logicImm (fun a b => a ^^^ b) r i s)

/-- `XOR r,q` (47_arith.md R267). -/
def execXorRQ (r q : Sel) (s : State) : Result := .next (logicOpnd (fun a b => a ^^^ b) r q s)

/-- `NOT A`, the spelling of `XOR A,0xF` (30_encoding.md R136; 47_arith.md R266). -/
def execNotA (s : State) : Result := .next (logicImm (fun a b => a ^^^ b) .a 0xF#4 s)

/-- `NOT B`, the spelling of `XOR B,0xF` (30_encoding.md R136; 47_arith.md R266). -/
def execNotB (s : State) : Result := .next (logicImm (fun a b => a ^^^ b) .b 0xF#4 s)

/-- `NOT MX`, the spelling of `XOR MX,0xF` (30_encoding.md R136; 47_arith.md R266). -/
def execNotMX (s : State) : Result := .next (logicImm (fun a b => a ^^^ b) .mx 0xF#4 s)

/-- `NOT MY`, the spelling of `XOR MY,0xF` (30_encoding.md R136; 47_arith.md R266). -/
def execNotMY (s : State) : Result := .next (logicImm (fun a b => a ^^^ b) .my 0xF#4 s)

/-- `CP r,i`: nothing is written but the flags; decimal mode never applies (47_arith.md R268). -/
def execCpRI (r : Sel) (i : Nib) (s : State) : Result :=
  let x := opnd r s
  .next (advance 7 (setCZ (sub4 x.1 i false false) x.2))

/-- `CP r,q` (47_arith.md R269). -/
def execCpRQ (r q : Sel) (s : State) : Result :=
  let x := opnds r q s
  .next (advance 7 (setCZ (sub4 x.1 x.2.1 false false) x.2.2))

/-- `FAN r,i`: only Z is written (47_arith.md R270). -/
def execFanRI (r : Sel) (i : Nib) (s : State) : Result :=
  let x := opnd r s
  .next (advance 7 (setZ (x.1 &&& i) x.2))

/-- `FAN r,q` (47_arith.md R271). -/
def execFanRQ (r q : Sel) (s : State) : Result :=
  let x := opnds r q s
  .next (advance 7 (setZ (x.1 &&& x.2.1) x.2.2))

/-- `RLC r`, 7 cycles (47_arith.md R273). -/
def execRlc (r : Sel) (s : State) : Result := .next (rotate rotLeft r 7 s)

/-- `RRC r`, 5 cycles (47_arith.md R274). -/
def execRrc (r : Sel) (s : State) : Result := .next (rotate rotRight r 5 s)

/-- `INC Mn`; decimal mode never applies (47_arith.md R275). -/
def execIncM (n : Nib) (s : State) : Result := .next (countMem (fun v => add4 v 1#4 false false) n s)

/-- `DEC Mn`; decimal mode never applies (47_arith.md R276). -/
def execDecM (n : Nib) (s : State) : Result := .next (countMem (fun v => sub4 v 1#4 false false) n s)

/-- The multi-digit forms: `M(I) <- f(M(I), Opnd(r))` with C and Z, the index incremented after the write by `inc`, 7 cycles
(47_arith.md R277 to R280). -/
def digitOp (f : Nib → Nib → Nib × Bool) (m r : Sel) (inc : State → State) (s : State) : State :=
  let x := opnds m r s
  let y := f x.1 x.2.1
  advance 7 (inc (setCZ y (setOpnd m y.1 x.2.2)))

/-- `ACPX MX,r` (47_arith.md R277). -/
def execAcpx (r : Sel) (s : State) : Result :=
  .next (digitOp (fun a b => add4 a b s.cpu.fC s.cpu.fD) .mx r incX s)

/-- `ACPY MY,r` (47_arith.md R278). -/
def execAcpy (r : Sel) (s : State) : Result :=
  .next (digitOp (fun a b => add4 a b s.cpu.fC s.cpu.fD) .my r incY s)

/-- `SCPX MX,r` (47_arith.md R279). -/
def execScpx (r : Sel) (s : State) : Result :=
  .next (digitOp (fun a b => sub4 a b s.cpu.fC s.cpu.fD) .mx r incX s)

/-- `SCPY MY,r` (47_arith.md R280). -/
def execScpy (r : Sel) (s : State) : Result :=
  .next (digitOp (fun a b => sub4 a b s.cpu.fC s.cpu.fD) .my r incY s)

end Sys2Proof.Machine
end

