-- ==== Sys2Proof/Machine/FlagInstr.lean ====
section
/-! DEFINITION. Flag instructions (45_flag.md) and their alias spellings (30_encoding.md R136). -/

namespace Sys2Proof.Machine

/-- `F <- F OR i`, 7 cycles (45_flag.md R220). -/
def setFlagBits (i : Nib) (s : State) : State :=
  advance 7 { s with cpu := s.cpu.setFlags (s.cpu.flags ||| i) }

/-- `F <- F AND i`, 7 cycles (45_flag.md R221). -/
def keepFlagBits (i : Nib) (s : State) : State :=
  advance 7 { s with cpu := s.cpu.setFlags (s.cpu.flags &&& i) }

/-- `SET F,i` (45_flag.md R220). -/
def execSetF (i : Nib) (s : State) : Result := .next (setFlagBits i s)

/-- `RST F,i` (45_flag.md R221). -/
def execRstF (i : Nib) (s : State) : Result := .next (keepFlagBits i s)

/-- `SCF`, the spelling of `SET F,0x1` (30_encoding.md R136; 45_flag.md R220). -/
def execScf (s : State) : Result := .next (setFlagBits 0x1#4 s)

/-- `SZF`, the spelling of `SET F,0x2` (30_encoding.md R136; 45_flag.md R220). -/
def execSzf (s : State) : Result := .next (setFlagBits 0x2#4 s)

/-- `SDF`, the spelling of `SET F,0x4` (30_encoding.md R136; 45_flag.md R220). -/
def execSdf (s : State) : Result := .next (setFlagBits 0x4#4 s)

/-- `EI`, the spelling of `SET F,0x8` (30_encoding.md R136; 45_flag.md R220). -/
def execEi (s : State) : Result := .next (setFlagBits 0x8#4 s)

/-- `RCF`, the spelling of `RST F,0xE` (30_encoding.md R136; 45_flag.md R221). -/
def execRcf (s : State) : Result := .next (keepFlagBits 0xE#4 s)

/-- `RZF`, the spelling of `RST F,0xD` (30_encoding.md R136; 45_flag.md R221). -/
def execRzf (s : State) : Result := .next (keepFlagBits 0xD#4 s)

/-- `RDF`, the spelling of `RST F,0xB` (30_encoding.md R136; 45_flag.md R221). -/
def execRdf (s : State) : Result := .next (keepFlagBits 0xB#4 s)

/-- `DI`, the spelling of `RST F,0x7` (30_encoding.md R136; 45_flag.md R221). -/
def execDi (s : State) : Result := .next (keepFlagBits 0x7#4 s)

end Sys2Proof.Machine
end

