-- ==== Sys2Proof/Machine/Index.lean ====
section
/-! DEFINITION. Index register instructions (43_index.md). -/

namespace Sys2Proof.Machine

/-- `v <- Opnd(r) ; nibble <- v` (43_index.md R186, R187). -/
def loadIx (k : IxNib) (r : Sel) (s : State) : State :=
  let v := opnd r s
  advance 5 (setIx k v.1 v.2)

/-- `SetOpnd(r, nibble)` (43_index.md R188, R189). -/
def storeIx (k : IxNib) (r : Sel) (s : State) : State := advance 5 (setOpnd r (s.cpu.getIx k) s)

/-- Add with carry to an index nibble; decimal mode never applies (43_index.md R190). -/
def addIx (k : IxNib) (i : Nib) (s : State) : State :=
  let x := add4 (s.cpu.getIx k) i s.cpu.fC false
  advance 7 (setCZ x (setIx k x.1 s))

/-- Compare an index nibble, which is unchanged (43_index.md R191). -/
def cmpIx (k : IxNib) (i : Nib) (s : State) : State := advance 7 (setCZ (sub4 (s.cpu.getIx k) i false false) s)

/-- `LD X,e` (43_index.md R182). -/
def execLdX (e : Byte) (s : State) : Result := .next (advance 5 { s with cpu := s.cpu.setX e })

/-- `LD Y,e` (43_index.md R183). -/
def execLdY (e : Byte) (s : State) : Result := .next (advance 5 { s with cpu := s.cpu.setY e })

/-- `LD XP,r` (43_index.md R186). -/
def execLdXP (r : Sel) (s : State) : Result := .next (loadIx .xp r s)

/-- `LD XH,r` (43_index.md R186). -/
def execLdXH (r : Sel) (s : State) : Result := .next (loadIx .xh r s)

/-- `LD XL,r` (43_index.md R186). -/
def execLdXL (r : Sel) (s : State) : Result := .next (loadIx .xl r s)

/-- `LD YP,r` (43_index.md R187). -/
def execLdYP (r : Sel) (s : State) : Result := .next (loadIx .yp r s)

/-- `LD YH,r` (43_index.md R187). -/
def execLdYH (r : Sel) (s : State) : Result := .next (loadIx .yh r s)

/-- `LD YL,r` (43_index.md R187). -/
def execLdYL (r : Sel) (s : State) : Result := .next (loadIx .yl r s)

/-- `LD r,XP` (43_index.md R188). -/
def execLdRXP (r : Sel) (s : State) : Result := .next (storeIx .xp r s)

/-- `LD r,XH` (43_index.md R188). -/
def execLdRXH (r : Sel) (s : State) : Result := .next (storeIx .xh r s)

/-- `LD r,XL` (43_index.md R188). -/
def execLdRXL (r : Sel) (s : State) : Result := .next (storeIx .xl r s)

/-- `LD r,YP` (43_index.md R189). -/
def execLdRYP (r : Sel) (s : State) : Result := .next (storeIx .yp r s)

/-- `LD r,YH` (43_index.md R189). -/
def execLdRYH (r : Sel) (s : State) : Result := .next (storeIx .yh r s)

/-- `LD r,YL` (43_index.md R189). -/
def execLdRYL (r : Sel) (s : State) : Result := .next (storeIx .yl r s)

/-- `ADC XH,i` (43_index.md R190). -/
def execAdcXH (i : Nib) (s : State) : Result := .next (addIx .xh i s)

/-- `ADC XL,i` (43_index.md R190). -/
def execAdcXL (i : Nib) (s : State) : Result := .next (addIx .xl i s)

/-- `ADC YH,i` (43_index.md R190). -/
def execAdcYH (i : Nib) (s : State) : Result := .next (addIx .yh i s)

/-- `ADC YL,i` (43_index.md R190). -/
def execAdcYL (i : Nib) (s : State) : Result := .next (addIx .yl i s)

/-- `CP XH,i` (43_index.md R191). -/
def execCpXH (i : Nib) (s : State) : Result := .next (cmpIx .xh i s)

/-- `CP XL,i` (43_index.md R191). -/
def execCpXL (i : Nib) (s : State) : Result := .next (cmpIx .xl i s)

/-- `CP YH,i` (43_index.md R191). -/
def execCpYH (i : Nib) (s : State) : Result := .next (cmpIx .yh i s)

/-- `CP YL,i` (43_index.md R191). -/
def execCpYL (i : Nib) (s : State) : Result := .next (cmpIx .yl i s)

end Sys2Proof.Machine
end

