-- ==== Sys2Proof/Machine/Stack.lean ====
section
/-! DEFINITION. Stack instructions (46_stack.md). -/

namespace Sys2Proof.Machine

/-- `SP <- v`, 5 cycles (46_stack.md R230, R231, R239, R240). -/
def setSp (v : Byte) (s : State) : State := advance 5 { s with cpu := { s.cpu with sp := v } }

/-- Push one index nibble (46_stack.md R234). -/
def pushIx (k : IxNib) (s : State) : State := advance 5 (push (s.cpu.getIx k) s)

/-- Pop one index nibble (46_stack.md R235). -/
def popIx (k : IxNib) (s : State) : State :=
  let v := pop s
  advance 5 (setIx k v.1 v.2)

/-- `INC SP` (46_stack.md R230). -/
def execIncSP (s : State) : Result := .next (setSp (s.cpu.sp + 1#8) s)

/-- `DEC SP` (46_stack.md R231). -/
def execDecSP (s : State) : Result := .next (setSp (s.cpu.sp - 1#8) s)

/-- `PUSH r` (46_stack.md R232). -/
def execPush (r : Sel) (s : State) : Result :=
  let v := opnd r s
  .next (advance 5 (push v.1 v.2))

/-- `POP r` (46_stack.md R233). -/
def execPop (r : Sel) (s : State) : Result :=
  let v := pop s
  .next (advance 5 (setOpnd r v.1 v.2))

/-- `PUSH XP` (46_stack.md R234). -/
def execPushXP (s : State) : Result := .next (pushIx .xp s)

/-- `PUSH XH` (46_stack.md R234). -/
def execPushXH (s : State) : Result := .next (pushIx .xh s)

/-- `PUSH XL` (46_stack.md R234). -/
def execPushXL (s : State) : Result := .next (pushIx .xl s)

/-- `PUSH YP` (46_stack.md R234). -/
def execPushYP (s : State) : Result := .next (pushIx .yp s)

/-- `PUSH YH` (46_stack.md R234). -/
def execPushYH (s : State) : Result := .next (pushIx .yh s)

/-- `PUSH YL` (46_stack.md R234). -/
def execPushYL (s : State) : Result := .next (pushIx .yl s)

/-- `POP XP` (46_stack.md R235). -/
def execPopXP (s : State) : Result := .next (popIx .xp s)

/-- `POP XH` (46_stack.md R235). -/
def execPopXH (s : State) : Result := .next (popIx .xh s)

/-- `POP XL` (46_stack.md R235). -/
def execPopXL (s : State) : Result := .next (popIx .xl s)

/-- `POP YP` (46_stack.md R235). -/
def execPopYP (s : State) : Result := .next (popIx .yp s)

/-- `POP YH` (46_stack.md R235). -/
def execPopYH (s : State) : Result := .next (popIx .yh s)

/-- `POP YL` (46_stack.md R235). -/
def execPopYL (s : State) : Result := .next (popIx .yl s)

/-- `PUSH F` (46_stack.md R236). -/
def execPushF (s : State) : Result := .next (advance 5 (push s.cpu.flags s))

/-- `POP F` (46_stack.md R237). -/
def execPopF (s : State) : Result :=
  let v := pop s
  .next (advance 5 { v.2 with cpu := v.2.cpu.setFlags v.1 })

/-- `LD SPH,r` (46_stack.md R239). -/
def execLdSPH (r : Sel) (s : State) : Result :=
  let v := opnd r s
  .next (setSp (byteOf v.1 (loNib v.2.cpu.sp)) v.2)

/-- `LD SPL,r` (46_stack.md R240). -/
def execLdSPL (r : Sel) (s : State) : Result :=
  let v := opnd r s
  .next (setSp (byteOf (hiNib v.2.cpu.sp) v.1) v.2)

/-- `LD r,SPH` (46_stack.md R241). -/
def execLdRSPH (r : Sel) (s : State) : Result := .next (advance 5 (setOpnd r (hiNib s.cpu.sp) s))

/-- `LD r,SPL` (46_stack.md R242). -/
def execLdRSPL (r : Sel) (s : State) : Result := .next (advance 5 (setOpnd r (loNib s.cpu.sp) s))

end Sys2Proof.Machine
end

