-- ==== Sys2Proof/Machine/System.lean ====
section
/-! DEFINITION. System instructions and undefined opcodes (42_system.md). -/

namespace Sys2Proof.Machine

/-- Advance with 5 cycles and set the halt latch (42_system.md R172). -/
def haltCore (s : State) : State := advance 5 { s with cpu := { s.cpu with halt := true } }

/-- `NOP5` (42_system.md R170). -/
def execNop5 (s : State) : Result := .next (advance 5 s)

/-- `NOP7` (42_system.md R171). -/
def execNop7 (s : State) : Result := .next (advance 7 s)

/-- `HALT` (42_system.md R172). -/
def execHalt (s : State) : Result := .next (haltCore s)

/-- `SLP`: identical to `HALT`; the clock network keeps running (42_system.md R173). -/
def execSlp (s : State) : Result := .next (haltCore s)

/-- An undefined opcode: a no-op of `UNDEF_CYCLES` (42_system.md R176). -/
def execUndefined (s : State) : Result := .next (advance s.params.undefCycles s)

end Sys2Proof.Machine
end

