-- ==== Sys2Proof/Machine/Transfer.lean ====
section
/-! DEFINITION. Data transfer instructions (44_transfer.md), the spellings INC X and INC Y among them (43_index.md R180). -/

namespace Sys2Proof.Machine

/-- `v <- Opnd(q) ; SetOpnd(r, v)` (44_transfer.md R201). -/
def moveOpnd (r q : Sel) (s : State) : State :=
  let v := opnd q s
  setOpnd r v.1 v.2

/-- `LD r,i` (44_transfer.md R200). -/
def execLdRI (r : Sel) (i : Nib) (s : State) : Result := .next (advance 5 (setOpnd r i s))

/-- `LD r,q` (44_transfer.md R201). -/
def execLdRQ (r q : Sel) (s : State) : Result := .next (advance 5 (moveOpnd r q s))

/-- `LD A,Mn` (44_transfer.md R202). -/
def execLdAM (n : Nib) (s : State) : Result :=
  let v := memRead (nibAddr n) s
  .next (advance 5 (setOpnd .a v.1 v.2))

/-- `LD B,Mn` (44_transfer.md R203). -/
def execLdBM (n : Nib) (s : State) : Result :=
  let v := memRead (nibAddr n) s
  .next (advance 5 (setOpnd .b v.1 v.2))

/-- `LD Mn,A` (44_transfer.md R204). -/
def execLdMA (n : Nib) (s : State) : Result := .next (advance 5 (memWrite (nibAddr n) s.cpu.a s))

/-- `LD Mn,B` (44_transfer.md R205). -/
def execLdMB (n : Nib) (s : State) : Result := .next (advance 5 (memWrite (nibAddr n) s.cpu.b s))

/-- `LDPX MX,i` (44_transfer.md R206). -/
def execLdpxI (i : Nib) (s : State) : Result := .next (advance 5 (incX (setOpnd .mx i s)))

/-- `LDPX r,q` (44_transfer.md R207). -/
def execLdpxRQ (r q : Sel) (s : State) : Result := .next (advance 5 (incX (moveOpnd r q s)))

/-- `LDPY MY,i` (44_transfer.md R208). -/
def execLdpyI (i : Nib) (s : State) : Result := .next (advance 5 (incY (setOpnd .my i s)))

/-- `LDPY r,q` (44_transfer.md R209). -/
def execLdpyRQ (r q : Sel) (s : State) : Result := .next (advance 5 (incY (moveOpnd r q s)))

/-- `LBPX MX,e` (44_transfer.md R210). -/
def execLbpx (e : Byte) (s : State) : Result := .next (advance 5 (storeByteX e s))

/-- `INC X`, the spelling of `LDPX A,A` (43_index.md R180). -/
def execIncX (s : State) : Result := .next (advance 5 (incX (moveOpnd .a .a s)))

/-- `INC Y`, the spelling of `LDPY A,A` (43_index.md R180). -/
def execIncY (s : State) : Result := .next (advance 5 (incY (moveOpnd .a .a s)))

end Sys2Proof.Machine
end

