-- ==== Sys2Proof/Machine/Dispatch.lean ====
section
/-! DEFINITION. The dispatch (60_exceptions.md R301): one arm for each constructor of Instr, in the order of
spec/opcode_table.json. -/

namespace Sys2Proof.Machine

def exec (i : Instr) (s : State) : Host.Outcome State Fault Refusal :=
  match i with
  | .jp k => Sys2Proof.Machine.execJp k s
  | .retd e => Sys2Proof.Machine.execRetd e s
  | .jpC k => Sys2Proof.Machine.execJpC k s
  | .jpNC k => Sys2Proof.Machine.execJpNC k s
  | .call k => Sys2Proof.Machine.execCall k s
  | .calz k => Sys2Proof.Machine.execCalz k s
  | .jpZ k => Sys2Proof.Machine.execJpZ k s
  | .jpNZ k => Sys2Proof.Machine.execJpNZ k s
  | .ldY e => Sys2Proof.Machine.execLdY e s
  | .lbpx e => Sys2Proof.Machine.execLbpx e s
  | .adcXH imm => Sys2Proof.Machine.execAdcXH imm s
  | .adcXL imm => Sys2Proof.Machine.execAdcXL imm s
  | .adcYH imm => Sys2Proof.Machine.execAdcYH imm s
  | .adcYL imm => Sys2Proof.Machine.execAdcYL imm s
  | .cpXH imm => Sys2Proof.Machine.execCpXH imm s
  | .cpXL imm => Sys2Proof.Machine.execCpXL imm s
  | .cpYH imm => Sys2Proof.Machine.execCpYH imm s
  | .cpYL imm => Sys2Proof.Machine.execCpYL imm s
  | .addRQ r q => Sys2Proof.Machine.execAddRQ r q s
  | .adcRQ r q => Sys2Proof.Machine.execAdcRQ r q s
  | .subRQ r q => Sys2Proof.Machine.execSubRQ r q s
  | .sbcRQ r q => Sys2Proof.Machine.execSbcRQ r q s
  | .andRQ r q => Sys2Proof.Machine.execAndRQ r q s
  | .orRQ r q => Sys2Proof.Machine.execOrRQ r q s
  | .xorRQ r q => Sys2Proof.Machine.execXorRQ r q s
  | .rlc r => Sys2Proof.Machine.execRlc r s
  | .undefined _ => Sys2Proof.Machine.execUndefined s
  | .ldX e => Sys2Proof.Machine.execLdX e s
  | .addRI r imm => Sys2Proof.Machine.execAddRI r imm s
  | .adcRI r imm => Sys2Proof.Machine.execAdcRI r imm s
  | .andRI r imm => Sys2Proof.Machine.execAndRI r imm s
  | .orRI r imm => Sys2Proof.Machine.execOrRI r imm s
  | .xorRI r imm => Sys2Proof.Machine.execXorRI r imm s
  | .sbcRI r imm => Sys2Proof.Machine.execSbcRI r imm s
  | .fanRI r imm => Sys2Proof.Machine.execFanRI r imm s
  | .cpRI r imm => Sys2Proof.Machine.execCpRI r imm s
  | .ldRI r imm => Sys2Proof.Machine.execLdRI r imm s
  | .pset p => Sys2Proof.Machine.execPset p s
  | .ldpxI imm => Sys2Proof.Machine.execLdpxI imm s
  | .ldpyI imm => Sys2Proof.Machine.execLdpyI imm s
  | .ldXP r => Sys2Proof.Machine.execLdXP r s
  | .ldXH r => Sys2Proof.Machine.execLdXH r s
  | .ldXL r => Sys2Proof.Machine.execLdXL r s
  | .rrc r => Sys2Proof.Machine.execRrc r s
  | .ldYP r => Sys2Proof.Machine.execLdYP r s
  | .ldYH r => Sys2Proof.Machine.execLdYH r s
  | .ldYL r => Sys2Proof.Machine.execLdYL r s
  | .ldRXP r => Sys2Proof.Machine.execLdRXP r s
  | .ldRXH r => Sys2Proof.Machine.execLdRXH r s
  | .ldRXL r => Sys2Proof.Machine.execLdRXL r s
  | .ldRYP r => Sys2Proof.Machine.execLdRYP r s
  | .ldRYH r => Sys2Proof.Machine.execLdRYH r s
  | .ldRYL r => Sys2Proof.Machine.execLdRYL r s
  | .ldRQ r q => Sys2Proof.Machine.execLdRQ r q s
  | .ldpxRQ r q => Sys2Proof.Machine.execLdpxRQ r q s
  | .ldpyRQ r q => Sys2Proof.Machine.execLdpyRQ r q s
  | .cpRQ r q => Sys2Proof.Machine.execCpRQ r q s
  | .fanRQ r q => Sys2Proof.Machine.execFanRQ r q s
  | .acpx r => Sys2Proof.Machine.execAcpx r s
  | .acpy r => Sys2Proof.Machine.execAcpy r s
  | .scpx r => Sys2Proof.Machine.execScpx r s
  | .scpy r => Sys2Proof.Machine.execScpy r s
  | .setF imm => Sys2Proof.Machine.execSetF imm s
  | .rstF imm => Sys2Proof.Machine.execRstF imm s
  | .incM n => Sys2Proof.Machine.execIncM n s
  | .decM n => Sys2Proof.Machine.execDecM n s
  | .ldMA n => Sys2Proof.Machine.execLdMA n s
  | .ldMB n => Sys2Proof.Machine.execLdMB n s
  | .ldAM n => Sys2Proof.Machine.execLdAM n s
  | .ldBM n => Sys2Proof.Machine.execLdBM n s
  | .push r => Sys2Proof.Machine.execPush r s
  | .pushXP => Sys2Proof.Machine.execPushXP s
  | .pushXH => Sys2Proof.Machine.execPushXH s
  | .pushXL => Sys2Proof.Machine.execPushXL s
  | .pushYP => Sys2Proof.Machine.execPushYP s
  | .pushYH => Sys2Proof.Machine.execPushYH s
  | .pushYL => Sys2Proof.Machine.execPushYL s
  | .pushF => Sys2Proof.Machine.execPushF s
  | .decSP => Sys2Proof.Machine.execDecSP s
  | .pop r => Sys2Proof.Machine.execPop r s
  | .popXP => Sys2Proof.Machine.execPopXP s
  | .popXH => Sys2Proof.Machine.execPopXH s
  | .popXL => Sys2Proof.Machine.execPopXL s
  | .popYP => Sys2Proof.Machine.execPopYP s
  | .popYH => Sys2Proof.Machine.execPopYH s
  | .popYL => Sys2Proof.Machine.execPopYL s
  | .popF => Sys2Proof.Machine.execPopF s
  | .incSP => Sys2Proof.Machine.execIncSP s
  | .rets => Sys2Proof.Machine.execRets s
  | .ret => Sys2Proof.Machine.execRet s
  | .ldSPH r => Sys2Proof.Machine.execLdSPH r s
  | .ldRSPH r => Sys2Proof.Machine.execLdRSPH r s
  | .jpba => Sys2Proof.Machine.execJpba s
  | .ldSPL r => Sys2Proof.Machine.execLdSPL r s
  | .ldRSPL r => Sys2Proof.Machine.execLdRSPL r s
  | .halt => Sys2Proof.Machine.execHalt s
  | .slp => Sys2Proof.Machine.execSlp s
  | .nop5 => Sys2Proof.Machine.execNop5 s
  | .nop7 => Sys2Proof.Machine.execNop7 s
  | .scf => Sys2Proof.Machine.execScf s
  | .szf => Sys2Proof.Machine.execSzf s
  | .sdf => Sys2Proof.Machine.execSdf s
  | .ei => Sys2Proof.Machine.execEi s
  | .rcf => Sys2Proof.Machine.execRcf s
  | .rzf => Sys2Proof.Machine.execRzf s
  | .rdf => Sys2Proof.Machine.execRdf s
  | .di => Sys2Proof.Machine.execDi s
  | .incX => Sys2Proof.Machine.execIncX s
  | .incY => Sys2Proof.Machine.execIncY s
  | .notA => Sys2Proof.Machine.execNotA s
  | .notB => Sys2Proof.Machine.execNotB s
  | .notMX => Sys2Proof.Machine.execNotMX s
  | .notMY => Sys2Proof.Machine.execNotMY s

end Sys2Proof.Machine
end

