-- ==== Sys2Proof/WellFormed.lean ====
section
/-! DEFINITION. Which instructions are well-formed. Every operand has the width of its field by its type; what is left to check is
that `undefined` carries one of the 73 undefined values (30_encoding.md R134). -/

namespace Sys2Proof

/-- The 73 undefined opcode values, as 30_encoding.md R134 lists them. -/
def undefinedOpcode (op : Opcode) : Bool :=
  let n := op.toNat
  decide (0xAF1 ≤ n ∧ n ≤ 0xAF4) || decide (0xAF6 ≤ n ∧ n ≤ 0xAF9) || decide (0xAFB ≤ n ∧ n ≤ 0xAFE)
    || decide (0xE9C ≤ n ∧ n ≤ 0xE9F) || decide (0xEAC ≤ n ∧ n ≤ 0xEAF) || decide (0xEBC ≤ n ∧ n ≤ 0xEBF)
    || decide (0xED0 ≤ n ∧ n ≤ 0xEDF) || decide (0xF20 ≤ n ∧ n ≤ 0xF27) || decide (0xF30 ≤ n ∧ n ≤ 0xF37)
    || decide (0xFCC ≤ n ∧ n ≤ 0xFCF) || decide (n = 0xFDC) || decide (n = 0xFDD) || decide (0xFE9 ≤ n ∧ n ≤ 0xFEF)
    || decide (n = 0xFFA) || decide (0xFFC ≤ n ∧ n ≤ 0xFFE)

/-- Whether an instruction is well-formed (30_encoding.md R134). -/
def Instr.wf : Instr → Bool
  | .undefined op => undefinedOpcode op
  | .jp _ => true
  | .retd _ => true
  | .jpC _ => true
  | .jpNC _ => true
  | .call _ => true
  | .calz _ => true
  | .jpZ _ => true
  | .jpNZ _ => true
  | .ldY _ => true
  | .lbpx _ => true
  | .adcXH _ => true
  | .adcXL _ => true
  | .adcYH _ => true
  | .adcYL _ => true
  | .cpXH _ => true
  | .cpXL _ => true
  | .cpYH _ => true
  | .cpYL _ => true
  | .addRQ _ _ => true
  | .adcRQ _ _ => true
  | .subRQ _ _ => true
  | .sbcRQ _ _ => true
  | .andRQ _ _ => true
  | .orRQ _ _ => true
  | .xorRQ _ _ => true
  | .rlc _ => true
  | .ldX _ => true
  | .addRI _ _ => true
  | .adcRI _ _ => true
  | .andRI _ _ => true
  | .orRI _ _ => true
  | .xorRI _ _ => true
  | .sbcRI _ _ => true
  | .fanRI _ _ => true
  | .cpRI _ _ => true
  | .ldRI _ _ => true
  | .pset _ => true
  | .ldpxI _ => true
  | .ldpyI _ => true
  | .ldXP _ => true
  | .ldXH _ => true
  | .ldXL _ => true
  | .rrc _ => true
  | .ldYP _ => true
  | .ldYH _ => true
  | .ldYL _ => true
  | .ldRXP _ => true
  | .ldRXH _ => true
  | .ldRXL _ => true
  | .ldRYP _ => true
  | .ldRYH _ => true
  | .ldRYL _ => true
  | .ldRQ _ _ => true
  | .ldpxRQ _ _ => true
  | .ldpyRQ _ _ => true
  | .cpRQ _ _ => true
  | .fanRQ _ _ => true
  | .acpx _ => true
  | .acpy _ => true
  | .scpx _ => true
  | .scpy _ => true
  | .setF _ => true
  | .rstF _ => true
  | .incM _ => true
  | .decM _ => true
  | .ldMA _ => true
  | .ldMB _ => true
  | .ldAM _ => true
  | .ldBM _ => true
  | .push _ => true
  | .pushXP => true
  | .pushXH => true
  | .pushXL => true
  | .pushYP => true
  | .pushYH => true
  | .pushYL => true
  | .pushF => true
  | .decSP => true
  | .pop _ => true
  | .popXP => true
  | .popXH => true
  | .popXL => true
  | .popYP => true
  | .popYH => true
  | .popYL => true
  | .popF => true
  | .incSP => true
  | .rets => true
  | .ret => true
  | .ldSPH _ => true
  | .ldRSPH _ => true
  | .jpba => true
  | .ldSPL _ => true
  | .ldRSPL _ => true
  | .halt => true
  | .slp => true
  | .nop5 => true
  | .nop7 => true
  | .scf => true
  | .szf => true
  | .sdf => true
  | .ei => true
  | .rcf => true
  | .rzf => true
  | .rdf => true
  | .di => true
  | .incX => true
  | .incY => true
  | .notA => true
  | .notB => true
  | .notMX => true
  | .notMY => true

/-- The alias spellings of 30_encoding.md R136. -/
def Instr.isAlias : Instr → Bool
  | .scf => true
  | .szf => true
  | .sdf => true
  | .ei => true
  | .rcf => true
  | .rzf => true
  | .rdf => true
  | .di => true
  | .incX => true
  | .incY => true
  | .notA => true
  | .notB => true
  | .notMX => true
  | .notMY => true
  | .jp _ => false
  | .retd _ => false
  | .jpC _ => false
  | .jpNC _ => false
  | .call _ => false
  | .calz _ => false
  | .jpZ _ => false
  | .jpNZ _ => false
  | .ldY _ => false
  | .lbpx _ => false
  | .adcXH _ => false
  | .adcXL _ => false
  | .adcYH _ => false
  | .adcYL _ => false
  | .cpXH _ => false
  | .cpXL _ => false
  | .cpYH _ => false
  | .cpYL _ => false
  | .addRQ _ _ => false
  | .adcRQ _ _ => false
  | .subRQ _ _ => false
  | .sbcRQ _ _ => false
  | .andRQ _ _ => false
  | .orRQ _ _ => false
  | .xorRQ _ _ => false
  | .rlc _ => false
  | .undefined _ => false
  | .ldX _ => false
  | .addRI _ _ => false
  | .adcRI _ _ => false
  | .andRI _ _ => false
  | .orRI _ _ => false
  | .xorRI _ _ => false
  | .sbcRI _ _ => false
  | .fanRI _ _ => false
  | .cpRI _ _ => false
  | .ldRI _ _ => false
  | .pset _ => false
  | .ldpxI _ => false
  | .ldpyI _ => false
  | .ldXP _ => false
  | .ldXH _ => false
  | .ldXL _ => false
  | .rrc _ => false
  | .ldYP _ => false
  | .ldYH _ => false
  | .ldYL _ => false
  | .ldRXP _ => false
  | .ldRXH _ => false
  | .ldRXL _ => false
  | .ldRYP _ => false
  | .ldRYH _ => false
  | .ldRYL _ => false
  | .ldRQ _ _ => false
  | .ldpxRQ _ _ => false
  | .ldpyRQ _ _ => false
  | .cpRQ _ _ => false
  | .fanRQ _ _ => false
  | .acpx _ => false
  | .acpy _ => false
  | .scpx _ => false
  | .scpy _ => false
  | .setF _ => false
  | .rstF _ => false
  | .incM _ => false
  | .decM _ => false
  | .ldMA _ => false
  | .ldMB _ => false
  | .ldAM _ => false
  | .ldBM _ => false
  | .push _ => false
  | .pushXP => false
  | .pushXH => false
  | .pushXL => false
  | .pushYP => false
  | .pushYH => false
  | .pushYL => false
  | .pushF => false
  | .decSP => false
  | .pop _ => false
  | .popXP => false
  | .popXH => false
  | .popXL => false
  | .popYP => false
  | .popYH => false
  | .popYL => false
  | .popF => false
  | .incSP => false
  | .rets => false
  | .ret => false
  | .ldSPH _ => false
  | .ldRSPH _ => false
  | .jpba => false
  | .ldSPL _ => false
  | .ldRSPL _ => false
  | .halt => false
  | .slp => false
  | .nop5 => false
  | .nop7 => false

end Sys2Proof
end

