-- ==== Sys2Proof/Decode.lean ====
section
/-! DEFINITION. The decoder, from the opcode map of 30_encoding.md R133 (spec/opcode_table.json), and after it the encoder. -/

namespace Sys2Proof

/-! ## Fields (30_encoding.md R131, R132) -/

/-- The operand selector of a 2-bit field: 0 = A, 1 = B, 2 = MX, 3 = MY (00_scope.md R14). -/
def Sel.ofBits (k : BitVec 2) : Sel :=
  if k = 0#2 then .a else if k = 1#2 then .b else if k = 2#2 then .mx else .my

/-- The 2-bit field of an operand selector (00_scope.md R14). -/
def Sel.bits : Sel → BitVec 2
  | .a => 0#2
  | .b => 1#2
  | .mx => 2#2
  | .my => 3#2

/-- `op[3:0]`: `i` or `n` of the formats RI and I4. -/
def field4 (op : Opcode) : Nib := op.extractLsb' 0 4

/-- `op[4:0]`: `p` of the format P5. -/
def field5 (op : Opcode) : BitVec 5 := op.extractLsb' 0 5

/-- `op[7:0]`: `s` or `e` of the format S8. -/
def field8 (op : Opcode) : Byte := op.extractLsb' 0 8

/-- The selector in `op[1:0]`: `r` of R2 and RR, `q` of RQ. -/
def selAt0 (op : Opcode) : Sel := Sel.ofBits (op.extractLsb' 0 2)

/-- The selector in `op[3:2]`: `r` of RQ. -/
def selAt2 (op : Opcode) : Sel := Sel.ofBits (op.extractLsb' 2 2)

/-- The selector in `op[5:4]`: `r` of RI. -/
def selAt4 (op : Opcode) : Sel := Sel.ofBits (op.extractLsb' 4 2)

/-! ## The opcode map (30_encoding.md R133, R139) -/

/-- One row of the opcode map: a value `op` belongs to it when `op AND mask = pat` (R139). -/
structure OpRow where
  mask : Nat
  pat : Nat
  build : Opcode → Instr

/-- Whether a value belongs to a row (30_encoding.md R139). -/
def OpRow.holds (row : OpRow) (op : Opcode) : Bool := (op.toNat &&& row.mask).beq row.pat

/-- The rows of 30_encoding.md R133 from 0x000 to 0xAFF. -/
def opRowsLow : List OpRow := [
  ⟨0xF00, 0x000, fun op => .jp (field8 op)⟩,
  ⟨0xF00, 0x100, fun op => .retd (field8 op)⟩,
  ⟨0xF00, 0x200, fun op => .jpC (field8 op)⟩,
  ⟨0xF00, 0x300, fun op => .jpNC (field8 op)⟩,
  ⟨0xF00, 0x400, fun op => .call (field8 op)⟩,
  ⟨0xF00, 0x500, fun op => .calz (field8 op)⟩,
  ⟨0xF00, 0x600, fun op => .jpZ (field8 op)⟩,
  ⟨0xF00, 0x700, fun op => .jpNZ (field8 op)⟩,
  ⟨0xF00, 0x800, fun op => .ldY (field8 op)⟩,
  ⟨0xF00, 0x900, fun op => .lbpx (field8 op)⟩,
  ⟨0xFF0, 0xA00, fun op => .adcXH (field4 op)⟩,
  ⟨0xFF0, 0xA10, fun op => .adcXL (field4 op)⟩,
  ⟨0xFF0, 0xA20, fun op => .adcYH (field4 op)⟩,
  ⟨0xFF0, 0xA30, fun op => .adcYL (field4 op)⟩,
  ⟨0xFF0, 0xA40, fun op => .cpXH (field4 op)⟩,
  ⟨0xFF0, 0xA50, fun op => .cpXL (field4 op)⟩,
  ⟨0xFF0, 0xA60, fun op => .cpYH (field4 op)⟩,
  ⟨0xFF0, 0xA70, fun op => .cpYL (field4 op)⟩,
  ⟨0xFF0, 0xA80, fun op => .addRQ (selAt2 op) (selAt0 op)⟩,
  ⟨0xFF0, 0xA90, fun op => .adcRQ (selAt2 op) (selAt0 op)⟩,
  ⟨0xFF0, 0xAA0, fun op => .subRQ (selAt2 op) (selAt0 op)⟩,
  ⟨0xFF0, 0xAB0, fun op => .sbcRQ (selAt2 op) (selAt0 op)⟩,
  ⟨0xFF0, 0xAC0, fun op => .andRQ (selAt2 op) (selAt0 op)⟩,
  ⟨0xFF0, 0xAD0, fun op => .orRQ (selAt2 op) (selAt0 op)⟩,
  ⟨0xFF0, 0xAE0, fun op => .xorRQ (selAt2 op) (selAt0 op)⟩,
  ⟨0xFFF, 0xAF0, fun op => .rlc (selAt0 op)⟩,
  ⟨0xFFF, 0xAF5, fun op => .rlc (selAt0 op)⟩,
  ⟨0xFFF, 0xAFA, fun op => .rlc (selAt0 op)⟩,
  ⟨0xFFF, 0xAFF, fun op => .rlc (selAt0 op)⟩,
  ⟨0xFFF, 0xAF1, fun op => .undefined op⟩,
  ⟨0xFFF, 0xAF2, fun op => .undefined op⟩,
  ⟨0xFFF, 0xAF3, fun op => .undefined op⟩,
  ⟨0xFFF, 0xAF4, fun op => .undefined op⟩,
  ⟨0xFFF, 0xAF6, fun op => .undefined op⟩,
  ⟨0xFFF, 0xAF7, fun op => .undefined op⟩,
  ⟨0xFFF, 0xAF8, fun op => .undefined op⟩,
  ⟨0xFFF, 0xAF9, fun op => .undefined op⟩,
  ⟨0xFFF, 0xAFB, fun op => .undefined op⟩,
  ⟨0xFFF, 0xAFC, fun op => .undefined op⟩,
  ⟨0xFFF, 0xAFD, fun op => .undefined op⟩,
  ⟨0xFFF, 0xAFE, fun op => .undefined op⟩]

/-- The rows of 30_encoding.md R133 from 0xB00 to 0xDFF. -/
def opRowsMid : List OpRow := [
  ⟨0xF00, 0xB00, fun op => .ldX (field8 op)⟩,
  ⟨0xFC0, 0xC00, fun op => .addRI (selAt4 op) (field4 op)⟩,
  ⟨0xFC0, 0xC40, fun op => .adcRI (selAt4 op) (field4 op)⟩,
  ⟨0xFC0, 0xC80, fun op => .andRI (selAt4 op) (field4 op)⟩,
  ⟨0xFC0, 0xCC0, fun op => .orRI (selAt4 op) (field4 op)⟩,
  ⟨0xFC0, 0xD00, fun op => .xorRI (selAt4 op) (field4 op)⟩,
  ⟨0xFC0, 0xD40, fun op => .sbcRI (selAt4 op) (field4 op)⟩,
  ⟨0xFC0, 0xD80, fun op => .fanRI (selAt4 op) (field4 op)⟩,
  ⟨0xFC0, 0xDC0, fun op => .cpRI (selAt4 op) (field4 op)⟩]

/-- The rows of 30_encoding.md R133 from 0xE00 to 0xEFF. -/
def opRowsE : List OpRow := [
  ⟨0xFC0, 0xE00, fun op => .ldRI (selAt4 op) (field4 op)⟩,
  ⟨0xFE0, 0xE40, fun op => .pset (field5 op)⟩,
  ⟨0xFF0, 0xE60, fun op => .ldpxI (field4 op)⟩,
  ⟨0xFF0, 0xE70, fun op => .ldpyI (field4 op)⟩,
  ⟨0xFFC, 0xE80, fun op => .ldXP (selAt0 op)⟩,
  ⟨0xFFC, 0xE84, fun op => .ldXH (selAt0 op)⟩,
  ⟨0xFFC, 0xE88, fun op => .ldXL (selAt0 op)⟩,
  ⟨0xFFC, 0xE8C, fun op => .rrc (selAt0 op)⟩,
  ⟨0xFFC, 0xE90, fun op => .ldYP (selAt0 op)⟩,
  ⟨0xFFC, 0xE94, fun op => .ldYH (selAt0 op)⟩,
  ⟨0xFFC, 0xE98, fun op => .ldYL (selAt0 op)⟩,
  ⟨0xFFC, 0xE9C, fun op => .undefined op⟩,
  ⟨0xFFC, 0xEA0, fun op => .ldRXP (selAt0 op)⟩,
  ⟨0xFFC, 0xEA4, fun op => .ldRXH (selAt0 op)⟩,
  ⟨0xFFC, 0xEA8, fun op => .ldRXL (selAt0 op)⟩,
  ⟨0xFFC, 0xEAC, fun op => .undefined op⟩,
  ⟨0xFFC, 0xEB0, fun op => .ldRYP (selAt0 op)⟩,
  ⟨0xFFC, 0xEB4, fun op => .ldRYH (selAt0 op)⟩,
  ⟨0xFFC, 0xEB8, fun op => .ldRYL (selAt0 op)⟩,
  ⟨0xFFC, 0xEBC, fun op => .undefined op⟩,
  ⟨0xFF0, 0xEC0, fun op => .ldRQ (selAt2 op) (selAt0 op)⟩,
  ⟨0xFF0, 0xED0, fun op => .undefined op⟩,
  ⟨0xFF0, 0xEE0, fun op => .ldpxRQ (selAt2 op) (selAt0 op)⟩,
  ⟨0xFF0, 0xEF0, fun op => .ldpyRQ (selAt2 op) (selAt0 op)⟩]

/-- The rows of 30_encoding.md R133 from 0xF00 to 0xFFF. -/
def opRowsF : List OpRow := [
  ⟨0xFF0, 0xF00, fun op => .cpRQ (selAt2 op) (selAt0 op)⟩,
  ⟨0xFF0, 0xF10, fun op => .fanRQ (selAt2 op) (selAt0 op)⟩,
  ⟨0xFF8, 0xF20, fun op => .undefined op⟩,
  ⟨0xFFC, 0xF28, fun op => .acpx (selAt0 op)⟩,
  ⟨0xFFC, 0xF2C, fun op => .acpy (selAt0 op)⟩,
  ⟨0xFF8, 0xF30, fun op => .undefined op⟩,
  ⟨0xFFC, 0xF38, fun op => .scpx (selAt0 op)⟩,
  ⟨0xFFC, 0xF3C, fun op => .scpy (selAt0 op)⟩,
  ⟨0xFF0, 0xF40, fun op => .setF (field4 op)⟩,
  ⟨0xFF0, 0xF50, fun op => .rstF (field4 op)⟩,
  ⟨0xFF0, 0xF60, fun op => .incM (field4 op)⟩,
  ⟨0xFF0, 0xF70, fun op => .decM (field4 op)⟩,
  ⟨0xFF0, 0xF80, fun op => .ldMA (field4 op)⟩,
  ⟨0xFF0, 0xF90, fun op => .ldMB (field4 op)⟩,
  ⟨0xFF0, 0xFA0, fun op => .ldAM (field4 op)⟩,
  ⟨0xFF0, 0xFB0, fun op => .ldBM (field4 op)⟩,
  ⟨0xFFC, 0xFC0, fun op => .push (selAt0 op)⟩,
  ⟨0xFFF, 0xFC4, fun _ => .pushXP⟩,
  ⟨0xFFF, 0xFC5, fun _ => .pushXH⟩,
  ⟨0xFFF, 0xFC6, fun _ => .pushXL⟩,
  ⟨0xFFF, 0xFC7, fun _ => .pushYP⟩,
  ⟨0xFFF, 0xFC8, fun _ => .pushYH⟩,
  ⟨0xFFF, 0xFC9, fun _ => .pushYL⟩,
  ⟨0xFFF, 0xFCA, fun _ => .pushF⟩,
  ⟨0xFFF, 0xFCB, fun _ => .decSP⟩,
  ⟨0xFFC, 0xFCC, fun op => .undefined op⟩,
  ⟨0xFFC, 0xFD0, fun op => .pop (selAt0 op)⟩,
  ⟨0xFFF, 0xFD4, fun _ => .popXP⟩,
  ⟨0xFFF, 0xFD5, fun _ => .popXH⟩,
  ⟨0xFFF, 0xFD6, fun _ => .popXL⟩,
  ⟨0xFFF, 0xFD7, fun _ => .popYP⟩,
  ⟨0xFFF, 0xFD8, fun _ => .popYH⟩,
  ⟨0xFFF, 0xFD9, fun _ => .popYL⟩,
  ⟨0xFFF, 0xFDA, fun _ => .popF⟩,
  ⟨0xFFF, 0xFDB, fun _ => .incSP⟩,
  ⟨0xFFE, 0xFDC, fun op => .undefined op⟩,
  ⟨0xFFF, 0xFDE, fun _ => .rets⟩,
  ⟨0xFFF, 0xFDF, fun _ => .ret⟩,
  ⟨0xFFC, 0xFE0, fun op => .ldSPH (selAt0 op)⟩,
  ⟨0xFFC, 0xFE4, fun op => .ldRSPH (selAt0 op)⟩,
  ⟨0xFFF, 0xFE8, fun _ => .jpba⟩,
  ⟨0xFFF, 0xFE9, fun op => .undefined op⟩,
  ⟨0xFFE, 0xFEA, fun op => .undefined op⟩,
  ⟨0xFFC, 0xFEC, fun op => .undefined op⟩,
  ⟨0xFFC, 0xFF0, fun op => .ldSPL (selAt0 op)⟩,
  ⟨0xFFC, 0xFF4, fun op => .ldRSPL (selAt0 op)⟩,
  ⟨0xFFF, 0xFF8, fun _ => .halt⟩,
  ⟨0xFFF, 0xFF9, fun _ => .slp⟩,
  ⟨0xFFF, 0xFFA, fun op => .undefined op⟩,
  ⟨0xFFF, 0xFFB, fun _ => .nop5⟩,
  ⟨0xFFE, 0xFFC, fun op => .undefined op⟩,
  ⟨0xFFF, 0xFFE, fun op => .undefined op⟩,
  ⟨0xFFF, 0xFFF, fun _ => .nop7⟩]

/-- The opcode map: the 127 rows of spec/opcode_table.json without `alias_of` (30_encoding.md R139). -/
def opRows : List OpRow := opRowsLow ++ opRowsMid ++ opRowsE ++ opRowsF

/-- The instruction of an opcode (30_encoding.md R133, R138). Every one of the 4096 values falls in a row; the second arm is
there because the function is total, and no value reaches it. -/
def decode (op : Opcode) : Instr :=
  match opRows.find? (fun row => row.holds op) with
  | some row => row.build op
  | none => .undefined op

/-- The opcode in a word of ROM: its upper 12 bits; the low 4 bits are ignored (20_memory.md R62). -/
def opcodeOfWord (w : RomWord) : Opcode := w.extractLsb' 4 12

/-- The word of ROM that holds an opcode, its low 4 bits 0 (95_test_vectors.md section 5). -/
def wordOfOpcode (op : Opcode) : RomWord := op ++ 0#4

/-- The word of two bytes of the ROM image, in the order they stand (20_memory.md R62). -/
def wordOfBytes (order : RomOrder) (b0 b1 : Byte) : RomWord :=
  match order with
  | .big => b0 ++ b1
  | .little => b1 ++ b0

/-- The two bytes of a word in the order they stand in the ROM image (20_memory.md R62). -/
def bytesOfWord (order : RomOrder) (w : RomWord) : Byte × Byte :=
  match order with
  | .big => (w.extractLsb' 8 8, w.extractLsb' 0 8)
  | .little => (w.extractLsb' 0 8, w.extractLsb' 8 8)

/-- Why a byte string holds no instruction: it ends before the word does. No word is refused (30_encoding.md R134). -/
inductive DecodeError where
  | truncated
deriving DecidableEq, Repr

/-- Decode the instruction at the front of a byte string, and give the rest of it. An instruction is one word (30_encoding.md
R130), so two bytes; fewer are rejected by name. -/
def decodeBytes (order : RomOrder) : List Byte → Except DecodeError (Instr × List Byte)
  | b0 :: b1 :: rest => .ok (decode (opcodeOfWord (wordOfBytes order b0 b1)), rest)
  | _ => .error .truncated

/-- The instruction the decoder reads from the opcode-table value `w` of `nbits` bits: the opcode is laid out as a word of ROM in
the default byte order and given to `decodeBytes`. A value beyond 12 bits is no opcode (notes/assumptions/13.md). -/
def decodeTableWord (nbits w : Nat) : Option Instr :=
  let v := w % 2 ^ nbits
  if v < 4096 then
    let bytes := bytesOfWord .big (wordOfOpcode (BitVec.ofNat 12 v))
    match decodeBytes .big [bytes.1, bytes.2] with
    | .ok (i, _) => some i
    | .error _ => none
  else none

/-! ## The encoder (30_encoding.md R131, R133, R136) -/

/-- Format S8: `oooo ssss ssss`. -/
def fmtS8 (o : BitVec 4) (s : Byte) : Opcode := o ++ s

/-- Format P5: `1110 010p pppp`. -/
def fmtP5 (o : BitVec 7) (p : BitVec 5) : Opcode := o ++ p

/-- Format RI: `oooo oorr iiii`. -/
def fmtRI (o : BitVec 6) (r : Sel) (i : Nib) : Opcode := o ++ (r.bits ++ i : BitVec 6)

/-- Format I4: `oooo oooo iiii`. -/
def fmtI4 (o : BitVec 8) (i : Nib) : Opcode := o ++ i

/-- Format RQ: `oooo oooo rrqq`; format RR is this with `r` twice. -/
def fmtRQ (o : BitVec 8) (r q : Sel) : Opcode := o ++ (r.bits ++ q.bits : BitVec 4)

/-- Format R2: `oooo oooo oorr`. -/
def fmtR2 (o : BitVec 10) (r : Sel) : Opcode := o ++ r.bits

/-- The opcode of an instruction (30_encoding.md R133); an alias spelling has the opcode of its base (R136). -/
def encode : Instr → Opcode
  | .jp s => fmtS8 0x0#4 s
  | .retd e => fmtS8 0x1#4 e
  | .jpC s => fmtS8 0x2#4 s
  | .jpNC s => fmtS8 0x3#4 s
  | .call s => fmtS8 0x4#4 s
  | .calz s => fmtS8 0x5#4 s
  | .jpZ s => fmtS8 0x6#4 s
  | .jpNZ s => fmtS8 0x7#4 s
  | .ldY e => fmtS8 0x8#4 e
  | .lbpx e => fmtS8 0x9#4 e
  | .adcXH i => fmtI4 0xA0#8 i
  | .adcXL i => fmtI4 0xA1#8 i
  | .adcYH i => fmtI4 0xA2#8 i
  | .adcYL i => fmtI4 0xA3#8 i
  | .cpXH i => fmtI4 0xA4#8 i
  | .cpXL i => fmtI4 0xA5#8 i
  | .cpYH i => fmtI4 0xA6#8 i
  | .cpYL i => fmtI4 0xA7#8 i
  | .addRQ r q => fmtRQ 0xA8#8 r q
  | .adcRQ r q => fmtRQ 0xA9#8 r q
  | .subRQ r q => fmtRQ 0xAA#8 r q
  | .sbcRQ r q => fmtRQ 0xAB#8 r q
  | .andRQ r q => fmtRQ 0xAC#8 r q
  | .orRQ r q => fmtRQ 0xAD#8 r q
  | .xorRQ r q => fmtRQ 0xAE#8 r q
  | .rlc r => fmtRQ 0xAF#8 r r
  | .undefined op => op
  | .ldX e => fmtS8 0xB#4 e
  | .addRI r i => fmtRI 0x30#6 r i
  | .adcRI r i => fmtRI 0x31#6 r i
  | .andRI r i => fmtRI 0x32#6 r i
  | .orRI r i => fmtRI 0x33#6 r i
  | .xorRI r i => fmtRI 0x34#6 r i
  | .sbcRI r i => fmtRI 0x35#6 r i
  | .fanRI r i => fmtRI 0x36#6 r i
  | .cpRI r i => fmtRI 0x37#6 r i
  | .ldRI r i => fmtRI 0x38#6 r i
  | .pset p => fmtP5 0x72#7 p
  | .ldpxI i => fmtI4 0xE6#8 i
  | .ldpyI i => fmtI4 0xE7#8 i
  | .ldXP r => fmtR2 0x3A0#10 r
  | .ldXH r => fmtR2 0x3A1#10 r
  | .ldXL r => fmtR2 0x3A2#10 r
  | .rrc r => fmtR2 0x3A3#10 r
  | .ldYP r => fmtR2 0x3A4#10 r
  | .ldYH r => fmtR2 0x3A5#10 r
  | .ldYL r => fmtR2 0x3A6#10 r
  | .ldRXP r => fmtR2 0x3A8#10 r
  | .ldRXH r => fmtR2 0x3A9#10 r
  | .ldRXL r => fmtR2 0x3AA#10 r
  | .ldRYP r => fmtR2 0x3AC#10 r
  | .ldRYH r => fmtR2 0x3AD#10 r
  | .ldRYL r => fmtR2 0x3AE#10 r
  | .ldRQ r q => fmtRQ 0xEC#8 r q
  | .ldpxRQ r q => fmtRQ 0xEE#8 r q
  | .ldpyRQ r q => fmtRQ 0xEF#8 r q
  | .cpRQ r q => fmtRQ 0xF0#8 r q
  | .fanRQ r q => fmtRQ 0xF1#8 r q
  | .acpx r => fmtR2 0x3CA#10 r
  | .acpy r => fmtR2 0x3CB#10 r
  | .scpx r => fmtR2 0x3CE#10 r
  | .scpy r => fmtR2 0x3CF#10 r
  | .setF i => fmtI4 0xF4#8 i
  | .rstF i => fmtI4 0xF5#8 i
  | .incM n => fmtI4 0xF6#8 n
  | .decM n => fmtI4 0xF7#8 n
  | .ldMA n => fmtI4 0xF8#8 n
  | .ldMB n => fmtI4 0xF9#8 n
  | .ldAM n => fmtI4 0xFA#8 n
  | .ldBM n => fmtI4 0xFB#8 n
  | .push r => fmtR2 0x3F0#10 r
  | .pushXP => 0xFC4#12
  | .pushXH => 0xFC5#12
  | .pushXL => 0xFC6#12
  | .pushYP => 0xFC7#12
  | .pushYH => 0xFC8#12
  | .pushYL => 0xFC9#12
  | .pushF => 0xFCA#12
  | .decSP => 0xFCB#12
  | .pop r => fmtR2 0x3F4#10 r
  | .popXP => 0xFD4#12
  | .popXH => 0xFD5#12
  | .popXL => 0xFD6#12
  | .popYP => 0xFD7#12
  | .popYH => 0xFD8#12
  | .popYL => 0xFD9#12
  | .popF => 0xFDA#12
  | .incSP => 0xFDB#12
  | .rets => 0xFDE#12
  | .ret => 0xFDF#12
  | .ldSPH r => fmtR2 0x3F8#10 r
  | .ldRSPH r => fmtR2 0x3F9#10 r
  | .jpba => 0xFE8#12
  | .ldSPL r => fmtR2 0x3FC#10 r
  | .ldRSPL r => fmtR2 0x3FD#10 r
  | .halt => 0xFF8#12
  | .slp => 0xFF9#12
  | .nop5 => 0xFFB#12
  | .nop7 => 0xFFF#12
  | .scf => 0xF41#12
  | .szf => 0xF42#12
  | .sdf => 0xF44#12
  | .ei => 0xF48#12
  | .rcf => 0xF5E#12
  | .rzf => 0xF5D#12
  | .rdf => 0xF5B#12
  | .di => 0xF57#12
  | .incX => 0xEE0#12
  | .incY => 0xEF0#12
  | .notA => 0xD0F#12
  | .notB => 0xD1F#12
  | .notMX => 0xD2F#12
  | .notMY => 0xD3F#12

/-- The base instruction of an alias spelling, and any other instruction itself: "a decoder decodes the base instruction"
(30_encoding.md R136). -/
def Instr.base : Instr → Instr
  | .scf => .setF 0x1#4
  | .szf => .setF 0x2#4
  | .sdf => .setF 0x4#4
  | .ei => .setF 0x8#4
  | .rcf => .rstF 0xE#4
  | .rzf => .rstF 0xD#4
  | .rdf => .rstF 0xB#4
  | .di => .rstF 0x7#4
  | .incX => .ldpxRQ .a .a
  | .incY => .ldpyRQ .a .a
  | .notA => .xorRI .a 0xF#4
  | .notB => .xorRI .b 0xF#4
  | .notMX => .xorRI .mx 0xF#4
  | .notMY => .xorRI .my 0xF#4
  | .jp s => .jp s
  | .retd e => .retd e
  | .jpC s => .jpC s
  | .jpNC s => .jpNC s
  | .call s => .call s
  | .calz s => .calz s
  | .jpZ s => .jpZ s
  | .jpNZ s => .jpNZ s
  | .ldY e => .ldY e
  | .lbpx e => .lbpx e
  | .adcXH i => .adcXH i
  | .adcXL i => .adcXL i
  | .adcYH i => .adcYH i
  | .adcYL i => .adcYL i
  | .cpXH i => .cpXH i
  | .cpXL i => .cpXL i
  | .cpYH i => .cpYH i
  | .cpYL i => .cpYL i
  | .addRQ r q => .addRQ r q
  | .adcRQ r q => .adcRQ r q
  | .subRQ r q => .subRQ r q
  | .sbcRQ r q => .sbcRQ r q
  | .andRQ r q => .andRQ r q
  | .orRQ r q => .orRQ r q
  | .xorRQ r q => .xorRQ r q
  | .rlc r => .rlc r
  | .undefined op => .undefined op
  | .ldX e => .ldX e
  | .addRI r i => .addRI r i
  | .adcRI r i => .adcRI r i
  | .andRI r i => .andRI r i
  | .orRI r i => .orRI r i
  | .xorRI r i => .xorRI r i
  | .sbcRI r i => .sbcRI r i
  | .fanRI r i => .fanRI r i
  | .cpRI r i => .cpRI r i
  | .ldRI r i => .ldRI r i
  | .pset p => .pset p
  | .ldpxI i => .ldpxI i
  | .ldpyI i => .ldpyI i
  | .ldXP r => .ldXP r
  | .ldXH r => .ldXH r
  | .ldXL r => .ldXL r
  | .rrc r => .rrc r
  | .ldYP r => .ldYP r
  | .ldYH r => .ldYH r
  | .ldYL r => .ldYL r
  | .ldRXP r => .ldRXP r
  | .ldRXH r => .ldRXH r
  | .ldRXL r => .ldRXL r
  | .ldRYP r => .ldRYP r
  | .ldRYH r => .ldRYH r
  | .ldRYL r => .ldRYL r
  | .ldRQ r q => .ldRQ r q
  | .ldpxRQ r q => .ldpxRQ r q
  | .ldpyRQ r q => .ldpyRQ r q
  | .cpRQ r q => .cpRQ r q
  | .fanRQ r q => .fanRQ r q
  | .acpx r => .acpx r
  | .acpy r => .acpy r
  | .scpx r => .scpx r
  | .scpy r => .scpy r
  | .setF i => .setF i
  | .rstF i => .rstF i
  | .incM n => .incM n
  | .decM n => .decM n
  | .ldMA n => .ldMA n
  | .ldMB n => .ldMB n
  | .ldAM n => .ldAM n
  | .ldBM n => .ldBM n
  | .push r => .push r
  | .pushXP => .pushXP
  | .pushXH => .pushXH
  | .pushXL => .pushXL
  | .pushYP => .pushYP
  | .pushYH => .pushYH
  | .pushYL => .pushYL
  | .pushF => .pushF
  | .decSP => .decSP
  | .pop r => .pop r
  | .popXP => .popXP
  | .popXH => .popXH
  | .popXL => .popXL
  | .popYP => .popYP
  | .popYH => .popYH
  | .popYL => .popYL
  | .popF => .popF
  | .incSP => .incSP
  | .rets => .rets
  | .ret => .ret
  | .ldSPH r => .ldSPH r
  | .ldRSPH r => .ldRSPH r
  | .jpba => .jpba
  | .ldSPL r => .ldSPL r
  | .ldRSPL r => .ldRSPL r
  | .halt => .halt
  | .slp => .slp
  | .nop5 => .nop5
  | .nop7 => .nop7

end Sys2Proof
end

