-- ==== Sys2Proof/Machine/Fetch.lean ====
section
/-! DEFINITION. Fetching an instruction from ROM (20_memory.md R62), and placing one there for the host. -/

namespace Sys2Proof.Machine

/-- `RomWord(w)` (20_memory.md R62): an empty ROM reads 0, a shorter one wraps modulo its length in bytes. -/
def romWord (p : Params) (w : PcWord) : RomWord :=
  if p.rom.length = 0 then 0#16
  else
    let a := 2 * w.toNat % p.rom.length
    wordOfBytes p.romWordOrder (p.rom.getD a 0#8) (p.rom.getD ((a + 1) % p.rom.length) 0#8)

/-- `Opcode(PC)` (20_memory.md R62). -/
def fetch (s : State) : Opcode := opcodeOfWord (romWord s.params s.cpu.pc)

/-- A ROM image that holds the word `v` at the word address `w`: the two bytes are replaced where they stand; an image too short
to hold a word is replaced by one of two bytes (notes/assumptions/12.md). -/
def placeWord (order : RomOrder) (rom : List Byte) (w : PcWord) (v : RomWord) : List Byte :=
  let bytes := bytesOfWord order v
  if rom.length < 2 then [bytes.1, bytes.2]
  else
    let a := 2 * w.toNat % rom.length
    (rom.set a bytes.1).set ((a + 1) % rom.length) bytes.2

/-- `s` with the opcode-table value `w` placed at its program counter, and the latches that keep a step from fetching cleared
(60_exceptions.md R300; notes/assumptions/12.md). -/
def placeInstr (s : State) (nbits w : Nat) : State :=
  let v := wordOfOpcode (BitVec.ofNat 12 (w % 2 ^ nbits))
  { s with
    params := { s.params with rom := placeWord s.params.romWordOrder s.params.rom s.cpu.pc v },
    cpu := { s.cpu with halt := false, resetLatch := false } }

end Sys2Proof.Machine
end

