-- ==== Sys2Proof/Machine/Interrupt.lean ====
section
/-! DEFINITION. The interrupt controller (60_exceptions.md R304 to R313). Entry itself is `enterInterrupt` in Machine/Ops.lean. -/

namespace Sys2Proof.Machine

/-- The sources, highest priority first (60_exceptions.md R304). -/
def intPriority : List IntSource := [.pt, .sio, .k1, .k0, .sw, .tm]

/-- `Pending(src)` (60_exceptions.md R307). -/
def pending (io : Io) : IntSource → Bool
  | .tm => io.ift &&& io.eit != 0#4
  | .sw => io.ifsw &&& io.eisw != 0#2
  | .pt => io.ipt && io.eipt
  | .sio => io.isio && io.eisio
  | .k0 => io.ik0
  | .k1 => io.ik1

/-- The source that a check enters: the first pending one in priority order (60_exceptions.md R306, R308). -/
def pendingSource (io : Io) : Option IntSource := intPriority.find? (fun src => pending io src)

/-- `InterruptCheck()` (60_exceptions.md R306); the cost of an entry is added to the state's cost. -/
def interruptCheck (lastWasPset : Bool) (s : State) : State :=
  if s.cpu.intDelay then { s with cpu := { s.cpu with intDelay := false } }
  else if !s.cpu.fI then s
  else if s.params.psetMasksInterrupt && lastWasPset then s
  else
    match pendingSource s.bus.io with
    | some src => enterInterrupt src s
    | none => s

end Sys2Proof.Machine
end

