-- ==== Sys2Proof/Machine/Cycle.lean ====
section
/-! DEFINITION. The step procedure (60_exceptions.md R300). -/

namespace Sys2Proof.Machine

/-- `lastWasPSET <- (op is in 0xE40..0xE5F)` (60_exceptions.md R300). -/
def isPset (op : Opcode) : Bool := decide (0xE40 ≤ op.toNat ∧ op.toNat ≤ 0xE5F)

/-- After the instruction: `NPC <- PC` unless it was a PSET (10_state.md R25), and the enable delay when `I` went from 0 to 1
(60_exceptions.md R305). `i0` is `I` before the instruction. -/
def epilogue (i0 pset : Bool) (s : State) : State :=
  { s with cpu := { s.cpu with
    npc := if pset then s.cpu.npc else s.cpu.pc,
    intDelay := if !i0 && s.cpu.fI then true else s.cpu.intDelay } }

/-- The clock network advances by the whole cost of the step (60_exceptions.md R300, R321). -/
def advanceClock (s : State) : State := { s with bus := clockAdvance s.params s.cost s.bus }

/-- The end of every step: the interrupt check, then the clock network (60_exceptions.md R300). -/
def finishStep (pset : Bool) (s : State) : State := advanceClock (interruptCheck pset s)

/-- A step that starts with `halt = 1` (42_system.md R174, 60_exceptions.md R300). -/
def haltedStep (s : State) : State :=
  finishStep false
    { s with
      cost := s.params.haltStepCycles,
      diag := { s.diag with haltedCycles := s.diag.haltedCycles + s.params.haltStepCycles } }

/-- `step()` (60_exceptions.md R300). The cycles it returns are left in the field `cost` (R302). With the reset latch set it
changes no other state. -/
def cycle (s : State) : Host.Outcome State Fault Refusal :=
  if s.cpu.resetLatch then .next { s with cost := s.params.haltStepCycles }
  else if s.cpu.halt then .next (haltedStep s)
  else
    match exec (decode (fetch s)) s with
    | .next t => .next (finishStep (isPset (fetch s)) (epilogue s.cpu.fI (isPset (fetch s)) t))
    | .fault r => .fault r
    | .refused r => .refused r

end Sys2Proof.Machine
end

