-- ==== Sys2Proof/Machine/Step.lean ====
section
/-! DEFINITION. The step of the machine and the host's way to place the instruction it fetches next. -/

namespace Sys2Proof.Machine

/-- One call of the host operation `step()` (60_exceptions.md R300). -/
def step (s : State) : Host.Outcome State Fault Refusal := cycle s

/-- `s` with the instruction of the opcode-table value `w` (its low `nbits` bits) where `step` fetches its next instruction
(notes/assumptions/12.md). -/
def State.withFetchWord (s : State) (nbits w : Nat) : State := placeInstr s nbits w

end Sys2Proof.Machine
end

