-- ==== Sys2Proof/Machine/HostOps.lean ====
section
/-! DEFINITION. The host operations of the block other than `step` and construction (60_exceptions.md R303, R324, R360 to R372,
R380; 70_reset_and_hazards.md R400). Each acts between two steps (20_memory.md R89). -/

namespace Sys2Proof.Machine

/-- Change only the bus. -/
def withBus (s : State) (b : Bus) : State := { s with bus := b }

/-! ## Reset -/

/-- `changed`: some VRAM cell is not 0, or LCD_CTRL is not 0x8 (70_reset_and_hazards.md R400). -/
def displayChanged (b : Bus) : Bool :=
  (List.range 160).any (fun i => Memory.read b.vram i != 0#4) || b.io.lcdCtrl != 0x8#4

/-- `reset()` (70_reset_and_hazards.md R400): every element to its reset value, except that the display generation only counts
and `lastEvent` is recomputed by `BuzzerUpdate()`. The events emitted so far stay (notes/assumptions/5.md). -/
def resetOp (s : State) : State :=
  let r := State.construct s.params
  let b : Bus :=
    { r.bus with
      bz := ⟨false, 0, 0, 0, false, s.bus.bz.lastEvent⟩
      displayGeneration := if displayChanged s.bus then s.bus.displayGeneration + 1 else s.bus.displayGeneration
      events := s.bus.events }
  withBus r (buzzerUpdate s.params { b with io := relatch s.params b.io })

/-! ## Running -/

/-- `fastForwardOscillator(n)` (60_exceptions.md R324): the ticks applied and the state after them. -/
def fastForward (n : Int) (s : State) : Nat × State :=
  let k := min (max n 0).toNat s.params.ffCap
  (k, withBus s (oscTicks s.params k s.bus))

/-- The loop of `runForCycles`: `while acc < target: acc <- acc + step()` (60_exceptions.md R303), in at most the given number of
rounds; `none` when they do not suffice (notes/assumptions/14.md). -/
def runLoop (target : Int) : Nat → Nat → State → Option (Host.Outcome (Nat × State) Fault Refusal)
  | 0, acc, s => if (acc : Int) < target then none else some (.next (acc, s))
  | n + 1, acc, s =>
    if (acc : Int) < target then
      match step s with
      | .next t => runLoop target n (acc + t.cost) t
      | .fault r => some (.fault r)
      | .refused r => some (.refused r)
    else some (.next (acc, s))

/-- `runForCycles(target)` in at most `rounds` steps (60_exceptions.md R303). -/
def runForCycles (rounds : Nat) (target : Int) (s : State) : Option (Host.Outcome (Nat × State) Fault Refusal) :=
  runLoop target rounds 0 s

/-! ## Pins, serial line and linked ports -/

/-- The port argument of `setPin` and `releasePin` (60_exceptions.md R366): one of the six ports, or any other identifier, which
names no port (notes/assumptions/15.md). -/
inductive HostPort where
  | k0
  | k1
  | p (n : Fin 4)
  | other (id : Nat)
deriving DecidableEq, Repr

/-- `v` with bit `i` set to `level`. -/
def setBit (v : Nib) (i : Fin 4) (level : Bool) : Nib :=
  if level then v ||| (1#4 <<< i.val) else v &&& ~~~(1#4 <<< i.val)

/-- The K1 pins with an edge event: those that fall (60_exceptions.md R361). -/
def k1Events (old new : Nib) : Nib := old &&& ~~~new

/-- The K0 pins with an edge event: falling where DFK0 is 0, rising where it is 1 (60_exceptions.md R362). -/
def k0Events (dfk0 old new : Nib) : Nib := (old &&& ~~~new &&& ~~~dfk0) ||| (~~~old &&& new &&& dfk0)

/-- Set the K0 levels and apply the edge rule (60_exceptions.md R360, R362). -/
def setK0 (new : Nib) (io : Io) : Io :=
  { io with kl0 := new, ik0 := io.ik0 || (k0Events io.dfk0 io.kl0 new &&& io.eik0 != 0#4) }

/-- Set the K1 levels and apply the edge rule (60_exceptions.md R360, R361). -/
def setK1 (new : Nib) (io : Io) : Io :=
  { io with kl1 := new, ik1 := io.ik1 || (k1Events io.kl1 new &&& io.eik1 != 0#4) }

/-- Set the pin level of a P port and latch again (60_exceptions.md R363). -/
def setPortLevel (p : Params) (n : Fin 4) (new : Nib) (io : Io) : Io :=
  relatch p (io.setPort n { io.port n with pl := new })

/-- Set one pin of a port (60_exceptions.md R360, R363); an identifier that names no port changes nothing (R366). -/
def pinLevel (p : Params) (port : HostPort) (i : Fin 4) (level : Bool) (io : Io) : Io :=
  match port with
  | .k0 => setK0 (setBit io.kl0 i level) io
  | .k1 => setK1 (setBit io.kl1 i level) io
  | .p n => setPortLevel p n (setBit (io.port n).pl i level) io
  | .other _ => io

/-- `setPin(port, i, level)`; any other port, pin or level changes nothing (60_exceptions.md R360, R363, R366). -/
def setPin (port : HostPort) (i level : Nat) (s : State) : State :=
  if h : i < 4 then
    if level ≤ 1 then
      withBus s { s.bus with io := pinLevel s.params port ⟨i, h⟩ (level == 1) s.bus.io }
    else s
  else s

/-- The level a released pin returns to: the pull-up of a K pin, 1 for a P pin (60_exceptions.md R360, R363). An identifier that
names no port has no pin, and `pinLevel` ignores the level given here. -/
def releasedLevel (p : Params) (port : HostPort) (i : Fin 4) : Bool :=
  match port with
  | .k0 => p.k0Pullup.getLsbD i.val
  | .k1 => p.k1Pullup.getLsbD i.val
  | .p _ => true
  | .other _ => true

/-- `releasePin(port, i)` (60_exceptions.md R360, R363, R366). -/
def releasePin (port : HostPort) (i : Nat) (s : State) : State :=
  if h : i < 4 then
    withBus s { s.bus with
      io := pinLevel s.params port ⟨i, h⟩ (releasedLevel s.params port ⟨i, h⟩) s.bus.io }
  else s

/-- `injectSerialByte(v)` (60_exceptions.md R368). -/
def injectSerialByte (v : Byte) (s : State) : State :=
  withBus s { s.bus with io := { s.bus.io with sd := v, isio := true } }

/-- Link a drive to a P port, or release it, and latch again (60_exceptions.md R364). -/
def setLinked (p : Params) (n : Fin 4) (v : Option Nib) (io : Io) : Io :=
  relatch p (io.setPort n { io.port n with ld := v })

/-- `setLinkedPortDrive(n, v)` (60_exceptions.md R364): `v[3:0]`, or NONE; any other port changes nothing
(notes/assumptions/15.md). -/
def setLinkedPortDrive (n : Nat) (v : Option Nat) (s : State) : State :=
  if h : n < 4 then
    withBus s { s.bus with io := setLinked s.params ⟨n, h⟩ (v.map (fun x => BitVec.ofNat 4 x)) s.bus.io }
  else s

/-- `getPortDrive(n)` (60_exceptions.md R364); any other port drives nothing (notes/assumptions/15.md). -/
def getPortDrive (n : Nat) (s : State) : Option Nib :=
  if h : n < 4 then (s.bus.io.port ⟨n, h⟩).drive else none

/-! ## Display -/

/-- `getDisplayFrame()`: 168 nibbles (60_exceptions.md R371). -/
def displayFrame (s : State) : List Nib :=
  let io := s.bus.io
  if io.lcdCtrl.getLsbD 3 then List.replicate 168 0x0#4
  else if io.lcdCtrl.getLsbD 2 then List.replicate 168 0xF#4
  else
    (List.range 160).map (fun i => Memory.read s.bus.vram i)
      ++ [io.p0.pv, io.p1.pv, io.p2.pv, io.p3.pv] ++ [io.r0, io.r1, io.r2, io.r3]

/-- `getDisplayGeneration(lastSeen)` (60_exceptions.md R372). -/
def getDisplayGeneration (lastSeen : Nat) (s : State) : Option (Nat × List Nib) :=
  if s.bus.displayGeneration = lastSeen then none else some (s.bus.displayGeneration, displayFrame s)

end Sys2Proof.Machine
end

