-- ==== Sys2Proof/Safety.lean ====
section
/-! DEFINITION. The vocabulary of the statements: the rules' quantities as plain arithmetic, independent of the model's own
operations where the rules give a number, the addresses an instruction touches, the registers it may write, its cycle cost, runs
of steps, and the invariant that every step keeps. -/

namespace Sys2Proof.Safety

open Sys2Proof.Machine

/-! ## Numbers of the rules -/

/-- The number of an operand selector (00_scope.md R14). -/
def selNum : Sel → Nat
  | .a => 0
  | .b => 1
  | .mx => 2
  | .my => 3

/-- The 12-bit opcode of a number. -/
def opc (n : Nat) : Opcode := BitVec.ofNat 12 n

/-- The address of a bank, a page and a step (10_state.md R23). -/
def pcAt (bank page step : Nat) : PcWord := BitVec.ofNat 13 (4096 * bank + 256 * page + step)

/-- `PC[12]`, `PC[11:8]` and `PC[7:0]` (10_state.md R23). -/
def pcBank (p : PcWord) : Nat := p.toNat / 4096

@[inherit_doc pcBank] def pcPage (p : PcWord) : Nat := p.toNat / 256 % 16

@[inherit_doc pcBank] def pcStep (p : PcWord) : Nat := p.toNat % 256

/-- The advance of 10_state.md R24: the low 12 bits count up modulo 4096, the bank bit is unchanged. -/
def nextPc (p : PcWord) : PcWord := BitVec.ofNat 13 (4096 * pcBank p + (p.toNat + 1) % 4096)

/-- `SP - k` modulo 256 (10_state.md R22). -/
def spDown (sp : Byte) (k : Nat) : Byte := BitVec.ofNat 8 (sp.toNat + 256 - k)

/-- `SP + k` modulo 256 (10_state.md R22). -/
def spUp (sp : Byte) (k : Nat) : Byte := BitVec.ofNat 8 (sp.toNat + k)

/-- `X` increased by `n` modulo 256, `XP` unchanged (43_index.md R181). -/
def bumpX (n : Nat) (c : Cpu) : Cpu :=
  let x := (16 * c.xh.toNat + c.xl.toNat + n) % 256
  { c with xh := BitVec.ofNat 4 (x / 16), xl := BitVec.ofNat 4 (x % 16) }

/-- `Y` increased by `n` modulo 256, `YP` unchanged (43_index.md R181). -/
def bumpY (n : Nat) (c : Cpu) : Cpu :=
  let y := (16 * c.yh.toNat + c.yl.toNat + n) % 256
  { c with yh := BitVec.ofNat 4 (y / 16), yl := BitVec.ofNat 4 (y % 16) }

/-- The flag register as a number: `8 I + 4 D + 2 Z + C` (10_state.md R27). -/
def flagNum (c : Cpu) : Nat := 8 * c.fI.toNat + 4 * c.fD.toNat + 2 * c.fZ.toNat + c.fC.toNat

/-- The digit that an addition with the exact sum `t` gives (47_arith.md R250). -/
def sumDigit (dec : Bool) (t : Nat) : Nat := if dec ∧ 9 < t then (t + 6) % 16 else t % 16

/-- The carry of an addition with the exact sum `t` (47_arith.md R250). -/
def sumCarry (dec : Bool) (t : Nat) : Bool := if dec then decide (9 < t) else decide (16 ≤ t)

/-- The digit that a subtraction with the exact difference `t` gives (47_arith.md R251). -/
def diffDigit (dec : Bool) (t : Int) : Nat := (if dec ∧ t < 0 then (t + 10) % 16 else t % 16).toNat

/-- The borrow of a subtraction with the exact difference `t` (47_arith.md R251). -/
def diffBorrow (t : Int) : Bool := decide (t < 0)

/-! ## Operand sources and destinations (00_scope.md R14) -/

/-- The value of an operand source, with the data memory `b`. -/
def srcValue (k : Sel) (s : State) (b : Bus) : Nib :=
  match k with
  | .a => s.cpu.a
  | .b => s.cpu.b
  | .mx => peek s.params s.cpu.ix b
  | .my => peek s.params s.cpu.iy b

/-- The data memory after an operand source is read: a read of a factor-flag register acknowledges it (20_memory.md R73). -/
def srcBus (k : Sel) (s : State) (b : Bus) : Bus :=
  match k with
  | .a => b
  | .b => b
  | .mx => ack s.cpu.ix b
  | .my => ack s.cpu.iy b

/-- The core after a value is written to an operand destination. -/
def dstCpu (k : Sel) (v : Nib) (c : Cpu) : Cpu :=
  match k with
  | .a => { c with a := v }
  | .b => { c with b := v }
  | .mx => c
  | .my => c

/-- The data memory `b` after a value is written to an operand destination. -/
def dstBus (k : Sel) (v : Nib) (s : State) (b : Bus) : Bus :=
  match k with
  | .a => b
  | .b => b
  | .mx => busWrite s.params s.cpu.ix v b
  | .my => busWrite s.params s.cpu.iy v b

/-- `s` with `PC` advanced, the cost `n`, the flags C and Z, and the number `res` written to the destination `r` over the data
memory `b`; everything else as in `s`. -/
def aluDone (r : Sel) (res : Nat) (c z : Bool) (n : Nat) (b : Bus) (s : State) : State :=
  { s with
    cpu := { dstCpu r (BitVec.ofNat 4 res) s.cpu with pc := nextPc s.cpu.pc, fC := c, fZ := z }
    bus := dstBus r (BitVec.ofNat 4 res) s b
    cost := n }

/-- `s` with `PC` advanced, the cost `n`, the flags C and Z and the data memory `b`; everything else as in `s`. -/
def flagsDone (c z : Bool) (n : Nat) (b : Bus) (s : State) : State :=
  { s with cpu := { s.cpu with pc := nextPc s.cpu.pc, fC := c, fZ := z }, bus := b, cost := n }

/-- An addition with the exact sum `t`, written to `r` over the data memory `b` (47_arith.md R250, R253). -/
def addDone (r : Sel) (t : Nat) (b : Bus) (s : State) : State :=
  aluDone r (sumDigit s.cpu.fD t) (sumCarry s.cpu.fD t) (decide (sumDigit s.cpu.fD t = 0)) 7 b s

/-- A subtraction with the exact difference `t`, written to `r` over the data memory `b` (47_arith.md R251, R253). -/
def subDone (r : Sel) (t : Int) (b : Bus) (s : State) : State :=
  aluDone r (diffDigit s.cpu.fD t) (diffBorrow t) (decide (diffDigit s.cpu.fD t = 0)) 7 b s

/-- A logical operation with the result `v`, written to `r` over the data memory `b`; C is unchanged (47_arith.md R262 to R267). -/
def logicDone (r : Sel) (v : Nib) (b : Bus) (s : State) : State :=
  aluDone r v.toNat s.cpu.fC (decide (v.toNat = 0)) 7 b s

/-- The core with `PC` advanced. -/
def nextCpu (c : Cpu) : Cpu := { c with pc := nextPc c.pc }

/-! ## The stack -/

/-- The data memory with the 12 bits `r[11:0]` pushed below `sp` as three nibbles (41_branch.md R163). -/
def pushedReturn (sp : Byte) (r : PcWord) (s : State) : Bus :=
  let b1 := busWrite s.params (BitVec.ofNat 12 (spDown sp 1).toNat) (BitVec.ofNat 4 (r.toNat / 256)) s.bus
  let b2 := busWrite s.params (BitVec.ofNat 12 (spDown sp 2).toNat) (BitVec.ofNat 4 (r.toNat / 16)) b1
  busWrite s.params (BitVec.ofNat 12 (spDown sp 3).toNat) (BitVec.ofNat 4 r.toNat) b2

/-- `M(SP + k)` as a number. -/
def stackNum (k : Nat) (s : State) : Nat :=
  (peek s.params (BitVec.ofNat 12 (spUp s.cpu.sp k).toNat) s.bus).toNat

/-- The address that a return takes from the stack, in the current bank (41_branch.md R160). -/
def returnPc (s : State) : PcWord :=
  BitVec.ofNat 13 (4096 * pcBank s.cpu.pc + 256 * stackNum 2 s + 16 * stackNum 1 s + stackNum 0 s)

/-- Two nibbles stored at `IX`, the low one first, `X` incremented after each (44_transfer.md R210). -/
def storedByte (e : Byte) (s : State) : Bus :=
  busWrite s.params (bumpX 1 s.cpu).ix (BitVec.ofNat 4 (e.toNat / 16))
    (busWrite s.params s.cpu.ix (BitVec.ofNat 4 e.toNat) s.bus)

/-! ## What an instruction touches -/

/-- The data address of an operand selector, if it has one. -/
def selAddr (k : Sel) (s : State) : List Addr :=
  match k with
  | .a => []
  | .b => []
  | .mx => [s.cpu.ix]
  | .my => [s.cpu.iy]

/-- The stack addresses that a push of `n` nibbles writes. -/
def pushAddr (n : Nat) (s : State) : List Addr :=
  (List.range n).map (fun k => stackAddr (s.cpu.sp - BitVec.ofNat 8 (k + 1)))

/-- The stack addresses that a pop of `n` nibbles reads. -/
def popAddr (n : Nat) (s : State) : List Addr :=
  (List.range n).map (fun k => stackAddr (s.cpu.sp + BitVec.ofNat 8 k))

/-- The two addresses that `RETD` and `LBPX` write. -/
def byteAddr (s : State) : List Addr := [s.cpu.ix, (incX s).cpu.ix]

/-- The data addresses an instruction stores to, each computed as its meaning computes it (its rule in 41_branch.md to
47_arith.md). -/
def stores : Instr → State → List Addr
  | .jp _, _ => []
  | .retd _, s => byteAddr s
  | .jpC _, _ => []
  | .jpNC _, _ => []
  | .call _, s => pushAddr 3 s
  | .calz _, s => pushAddr 3 s
  | .jpZ _, _ => []
  | .jpNZ _, _ => []
  | .ldY _, _ => []
  | .lbpx _, s => byteAddr s
  | .adcXH _, _ => []
  | .adcXL _, _ => []
  | .adcYH _, _ => []
  | .adcYL _, _ => []
  | .cpXH _, _ => []
  | .cpXL _, _ => []
  | .cpYH _, _ => []
  | .cpYL _, _ => []
  | .addRQ r _, s => selAddr r s
  | .adcRQ r _, s => selAddr r s
  | .subRQ r _, s => selAddr r s
  | .sbcRQ r _, s => selAddr r s
  | .andRQ r _, s => selAddr r s
  | .orRQ r _, s => selAddr r s
  | .xorRQ r _, s => selAddr r s
  | .rlc r, s => selAddr r s
  | .undefined _, _ => []
  | .ldX _, _ => []
  | .addRI r _, s => selAddr r s
  | .adcRI r _, s => selAddr r s
  | .andRI r _, s => selAddr r s
  | .orRI r _, s => selAddr r s
  | .xorRI r _, s => selAddr r s
  | .sbcRI r _, s => selAddr r s
  | .fanRI _ _, _ => []
  | .cpRI _ _, _ => []
  | .ldRI r _, s => selAddr r s
  | .pset _, _ => []
  | .ldpxI _, s => [s.cpu.ix]
  | .ldpyI _, s => [s.cpu.iy]
  | .ldXP _, _ => []
  | .ldXH _, _ => []
  | .ldXL _, _ => []
  | .rrc r, s => selAddr r s
  | .ldYP _, _ => []
  | .ldYH _, _ => []
  | .ldYL _, _ => []
  | .ldRXP r, s => selAddr r s
  | .ldRXH r, s => selAddr r s
  | .ldRXL r, s => selAddr r s
  | .ldRYP r, s => selAddr r s
  | .ldRYH r, s => selAddr r s
  | .ldRYL r, s => selAddr r s
  | .ldRQ r _, s => selAddr r s
  | .ldpxRQ r _, s => selAddr r s
  | .ldpyRQ r _, s => selAddr r s
  | .cpRQ _ _, _ => []
  | .fanRQ _ _, _ => []
  | .acpx _, s => [s.cpu.ix]
  | .acpy _, s => [s.cpu.iy]
  | .scpx _, s => [s.cpu.ix]
  | .scpy _, s => [s.cpu.iy]
  | .setF _, _ => []
  | .rstF _, _ => []
  | .incM n, _ => [nibAddr n]
  | .decM n, _ => [nibAddr n]
  | .ldMA n, _ => [nibAddr n]
  | .ldMB n, _ => [nibAddr n]
  | .ldAM _, _ => []
  | .ldBM _, _ => []
  | .push _, s => pushAddr 1 s
  | .pushXP, s => pushAddr 1 s
  | .pushXH, s => pushAddr 1 s
  | .pushXL, s => pushAddr 1 s
  | .pushYP, s => pushAddr 1 s
  | .pushYH, s => pushAddr 1 s
  | .pushYL, s => pushAddr 1 s
  | .pushF, s => pushAddr 1 s
  | .decSP, _ => []
  | .pop r, s => selAddr r s
  | .popXP, _ => []
  | .popXH, _ => []
  | .popXL, _ => []
  | .popYP, _ => []
  | .popYH, _ => []
  | .popYL, _ => []
  | .popF, _ => []
  | .incSP, _ => []
  | .rets, _ => []
  | .ret, _ => []
  | .ldSPH _, _ => []
  | .ldRSPH r, s => selAddr r s
  | .jpba, _ => []
  | .ldSPL _, _ => []
  | .ldRSPL r, s => selAddr r s
  | .halt, _ => []
  | .slp, _ => []
  | .nop5, _ => []
  | .nop7, _ => []
  | .scf, _ => []
  | .szf, _ => []
  | .sdf, _ => []
  | .ei, _ => []
  | .rcf, _ => []
  | .rzf, _ => []
  | .rdf, _ => []
  | .di, _ => []
  | .incX, _ => []
  | .incY, _ => []
  | .notA, _ => []
  | .notB, _ => []
  | .notMX, s => [s.cpu.ix]
  | .notMY, s => [s.cpu.iy]

/-- The data addresses an instruction reads (its rule in 41_branch.md to 47_arith.md). -/
def reads : Instr → State → List Addr
  | .jp _, _ => []
  | .retd _, s => popAddr 3 s
  | .jpC _, _ => []
  | .jpNC _, _ => []
  | .call _, _ => []
  | .calz _, _ => []
  | .jpZ _, _ => []
  | .jpNZ _, _ => []
  | .ldY _, _ => []
  | .lbpx _, _ => []
  | .adcXH _, _ => []
  | .adcXL _, _ => []
  | .adcYH _, _ => []
  | .adcYL _, _ => []
  | .cpXH _, _ => []
  | .cpXL _, _ => []
  | .cpYH _, _ => []
  | .cpYL _, _ => []
  | .addRQ r q, s => selAddr r s ++ selAddr q s
  | .adcRQ r q, s => selAddr r s ++ selAddr q s
  | .subRQ r q, s => selAddr r s ++ selAddr q s
  | .sbcRQ r q, s => selAddr r s ++ selAddr q s
  | .andRQ r q, s => selAddr r s ++ selAddr q s
  | .orRQ r q, s => selAddr r s ++ selAddr q s
  | .xorRQ r q, s => selAddr r s ++ selAddr q s
  | .rlc r, s => selAddr r s
  | .undefined _, _ => []
  | .ldX _, _ => []
  | .addRI r _, s => selAddr r s
  | .adcRI r _, s => selAddr r s
  | .andRI r _, s => selAddr r s
  | .orRI r _, s => selAddr r s
  | .xorRI r _, s => selAddr r s
  | .sbcRI r _, s => selAddr r s
  | .fanRI r _, s => selAddr r s
  | .cpRI r _, s => selAddr r s
  | .ldRI _ _, _ => []
  | .pset _, _ => []
  | .ldpxI _, _ => []
  | .ldpyI _, _ => []
  | .ldXP r, s => selAddr r s
  | .ldXH r, s => selAddr r s
  | .ldXL r, s => selAddr r s
  | .rrc r, s => selAddr r s
  | .ldYP r, s => selAddr r s
  | .ldYH r, s => selAddr r s
  | .ldYL r, s => selAddr r s
  | .ldRXP _, _ => []
  | .ldRXH _, _ => []
  | .ldRXL _, _ => []
  | .ldRYP _, _ => []
  | .ldRYH _, _ => []
  | .ldRYL _, _ => []
  | .ldRQ _ q, s => selAddr q s
  | .ldpxRQ _ q, s => selAddr q s
  | .ldpyRQ _ q, s => selAddr q s
  | .cpRQ r q, s => selAddr r s ++ selAddr q s
  | .fanRQ r q, s => selAddr r s ++ selAddr q s
  | .acpx r, s => s.cpu.ix :: selAddr r s
  | .acpy r, s => s.cpu.iy :: selAddr r s
  | .scpx r, s => s.cpu.ix :: selAddr r s
  | .scpy r, s => s.cpu.iy :: selAddr r s
  | .setF _, _ => []
  | .rstF _, _ => []
  | .incM n, _ => [nibAddr n]
  | .decM n, _ => [nibAddr n]
  | .ldMA _, _ => []
  | .ldMB _, _ => []
  | .ldAM n, _ => [nibAddr n]
  | .ldBM n, _ => [nibAddr n]
  | .push r, s => selAddr r s
  | .pushXP, _ => []
  | .pushXH, _ => []
  | .pushXL, _ => []
  | .pushYP, _ => []
  | .pushYH, _ => []
  | .pushYL, _ => []
  | .pushF, _ => []
  | .decSP, _ => []
  | .pop _, s => popAddr 1 s
  | .popXP, s => popAddr 1 s
  | .popXH, s => popAddr 1 s
  | .popXL, s => popAddr 1 s
  | .popYP, s => popAddr 1 s
  | .popYH, s => popAddr 1 s
  | .popYL, s => popAddr 1 s
  | .popF, s => popAddr 1 s
  | .incSP, _ => []
  | .rets, s => popAddr 3 s
  | .ret, s => popAddr 3 s
  | .ldSPH r, s => selAddr r s
  | .ldRSPH _, _ => []
  | .jpba, _ => []
  | .ldSPL r, s => selAddr r s
  | .ldRSPL _, _ => []
  | .halt, _ => []
  | .slp, _ => []
  | .nop5, _ => []
  | .nop7, _ => []
  | .scf, _ => []
  | .szf, _ => []
  | .sdf, _ => []
  | .ei, _ => []
  | .rcf, _ => []
  | .rzf, _ => []
  | .rdf, _ => []
  | .di, _ => []
  | .incX, _ => []
  | .incY, _ => []
  | .notA, _ => []
  | .notB, _ => []
  | .notMX, s => [s.cpu.ix]
  | .notMY, s => [s.cpu.iy]

/-- Whether a store to `w` can change what a read of `a` returns: it is `a` itself, or `w` is a control register whose action or
direction bits decide what another register reads as (20_memory.md R78, R81). -/
def storeChanges (w a : Addr) : Bool :=
  decide (a = w)
    || (decide (w = 0xF76#12) && (decide (a = 0xF20#12) || decide (a = 0xF21#12)))
    || (decide (w = 0xF77#12) && (decide (a = 0xF22#12) || decide (a = 0xF23#12)))
    || (decide (w = 0xF78#12) && (decide (a = 0xF24#12) || decide (a = 0xF25#12)))
    || (decide (w = 0xF7D#12) && decide (0xF60 ≤ a.toNat ∧ a.toNat ≤ 0xF63))

/-- Whether `a` is a factor-flag register, the only registers a read changes (20_memory.md R73, R87). -/
def isFactorAddr (a : Addr) : Bool := decide (0xF00 ≤ a.toNat ∧ a.toNat ≤ 0xF05)

/-! ## Registers and flags -/

/-- The registers, flags and latches of the core other than `PC` (10_state.md R39). -/
inductive Reg where
  | a
  | b
  | xp
  | xh
  | xl
  | yp
  | yh
  | yl
  | sp
  | npc
  | fC
  | fZ
  | fD
  | fI
  | halt
  | resetLatch
  | intDelay
deriving DecidableEq, Repr

/-- The value of a register as a number. -/
def regValue (c : Cpu) : Reg → Nat
  | .a => c.a.toNat
  | .b => c.b.toNat
  | .xp => c.xp.toNat
  | .xh => c.xh.toNat
  | .xl => c.xl.toNat
  | .yp => c.yp.toNat
  | .yh => c.yh.toNat
  | .yl => c.yl.toNat
  | .sp => c.sp.toNat
  | .npc => c.npc.toNat
  | .fC => c.fC.toNat
  | .fZ => c.fZ.toNat
  | .fD => c.fD.toNat
  | .fI => c.fI.toNat
  | .halt => c.halt.toNat
  | .resetLatch => c.resetLatch.toNat
  | .intDelay => c.intDelay.toNat

/-- The register of an operand destination, if it is one. -/
def selReg : Sel → List Reg
  | .a => [.a]
  | .b => [.b]
  | .mx => []
  | .my => []

/-- The registers, flags and latches an instruction may write, `PC` apart (its rule; the flags as in 10_state.md R28). -/
def writes (p : Params) : Instr → List Reg
  | .jp _ => []
  | .retd _ => [.sp, .xh, .xl]
  | .jpC _ => []
  | .jpNC _ => []
  | .call _ => [.sp]
  | .calz _ => [.sp]
  | .jpZ _ => []
  | .jpNZ _ => []
  | .ldY _ => [.yh, .yl]
  | .lbpx _ => [.xh, .xl]
  | .adcXH _ => [.xh, .fC, .fZ]
  | .adcXL _ => [.xl, .fC, .fZ]
  | .adcYH _ => [.yh, .fC, .fZ]
  | .adcYL _ => [.yl, .fC, .fZ]
  | .cpXH _ => [.fC, .fZ]
  | .cpXL _ => [.fC, .fZ]
  | .cpYH _ => [.fC, .fZ]
  | .cpYL _ => [.fC, .fZ]
  | .addRQ r _ => selReg r ++ [.fC, .fZ]
  | .adcRQ r _ => selReg r ++ [.fC, .fZ]
  | .subRQ r _ => selReg r ++ [.fC, .fZ]
  | .sbcRQ r _ => selReg r ++ [.fC, .fZ]
  | .andRQ r _ => selReg r ++ [.fZ]
  | .orRQ r _ => selReg r ++ [.fZ]
  | .xorRQ r _ => selReg r ++ [.fZ]
  | .rlc r => selReg r ++ (if p.rotWritesZ then [.fC, .fZ] else [.fC])
  | .undefined _ => []
  | .ldX _ => [.xh, .xl]
  | .addRI r _ => selReg r ++ [.fC, .fZ]
  | .adcRI r _ => selReg r ++ [.fC, .fZ]
  | .andRI r _ => selReg r ++ [.fZ]
  | .orRI r _ => selReg r ++ [.fZ]
  | .xorRI r _ => selReg r ++ [.fZ]
  | .sbcRI r _ => selReg r ++ [.fC, .fZ]
  | .fanRI _ _ => [.fZ]
  | .cpRI _ _ => [.fC, .fZ]
  | .ldRI r _ => selReg r
  | .pset _ => [.npc]
  | .ldpxI _ => [.xh, .xl]
  | .ldpyI _ => [.yh, .yl]
  | .ldXP _ => [.xp]
  | .ldXH _ => [.xh]
  | .ldXL _ => [.xl]
  | .rrc r => selReg r ++ (if p.rotWritesZ then [.fC, .fZ] else [.fC])
  | .ldYP _ => [.yp]
  | .ldYH _ => [.yh]
  | .ldYL _ => [.yl]
  | .ldRXP r => selReg r
  | .ldRXH r => selReg r
  | .ldRXL r => selReg r
  | .ldRYP r => selReg r
  | .ldRYH r => selReg r
  | .ldRYL r => selReg r
  | .ldRQ r _ => selReg r
  | .ldpxRQ r _ => selReg r ++ [.xh, .xl]
  | .ldpyRQ r _ => selReg r ++ [.yh, .yl]
  | .cpRQ _ _ => [.fC, .fZ]
  | .fanRQ _ _ => [.fZ]
  | .acpx _ => [.xh, .xl, .fC, .fZ]
  | .acpy _ => [.yh, .yl, .fC, .fZ]
  | .scpx _ => [.xh, .xl, .fC, .fZ]
  | .scpy _ => [.yh, .yl, .fC, .fZ]
  | .setF _ => [.fC, .fZ, .fD, .fI]
  | .rstF _ => [.fC, .fZ, .fD, .fI]
  | .incM _ => [.fC, .fZ]
  | .decM _ => [.fC, .fZ]
  | .ldMA _ => []
  | .ldMB _ => []
  | .ldAM _ => [.a]
  | .ldBM _ => [.b]
  | .push _ => [.sp]
  | .pushXP => [.sp]
  | .pushXH => [.sp]
  | .pushXL => [.sp]
  | .pushYP => [.sp]
  | .pushYH => [.sp]
  | .pushYL => [.sp]
  | .pushF => [.sp]
  | .decSP => [.sp]
  | .pop r => .sp :: selReg r
  | .popXP => [.xp, .sp]
  | .popXH => [.xh, .sp]
  | .popXL => [.xl, .sp]
  | .popYP => [.yp, .sp]
  | .popYH => [.yh, .sp]
  | .popYL => [.yl, .sp]
  | .popF => [.sp, .fC, .fZ, .fD, .fI]
  | .incSP => [.sp]
  | .rets => [.sp]
  | .ret => [.sp]
  | .ldSPH _ => [.sp]
  | .ldRSPH r => selReg r
  | .jpba => []
  | .ldSPL _ => [.sp]
  | .ldRSPL r => selReg r
  | .halt => [.halt]
  | .slp => [.halt]
  | .nop5 => []
  | .nop7 => []
  | .scf => [.fC]
  | .szf => [.fZ]
  | .sdf => [.fD]
  | .ei => [.fI]
  | .rcf => [.fC]
  | .rzf => [.fZ]
  | .rdf => [.fD]
  | .di => [.fI]
  | .incX => [.xh, .xl]
  | .incY => [.yh, .yl]
  | .notA => [.a, .fZ]
  | .notB => [.b, .fZ]
  | .notMX => [.fZ]
  | .notMY => [.fZ]

/-- The cycles of an instruction (70_reset_and_hazards.md R420). -/
def cycleCost (p : Params) : Instr → Nat
  | .jp _ => 5
  | .retd _ => 12
  | .jpC _ => 5
  | .jpNC _ => 5
  | .call _ => 7
  | .calz _ => 7
  | .jpZ _ => 5
  | .jpNZ _ => 5
  | .ldY _ => 5
  | .lbpx _ => 5
  | .adcXH _ => 7
  | .adcXL _ => 7
  | .adcYH _ => 7
  | .adcYL _ => 7
  | .cpXH _ => 7
  | .cpXL _ => 7
  | .cpYH _ => 7
  | .cpYL _ => 7
  | .addRQ _ _ => 7
  | .adcRQ _ _ => 7
  | .subRQ _ _ => 7
  | .sbcRQ _ _ => 7
  | .andRQ _ _ => 7
  | .orRQ _ _ => 7
  | .xorRQ _ _ => 7
  | .rlc _ => 7
  | .undefined _ => p.undefCycles
  | .ldX _ => 5
  | .addRI _ _ => 7
  | .adcRI _ _ => 7
  | .andRI _ _ => 7
  | .orRI _ _ => 7
  | .xorRI _ _ => 7
  | .sbcRI _ _ => 7
  | .fanRI _ _ => 7
  | .cpRI _ _ => 7
  | .ldRI _ _ => 5
  | .pset _ => 5
  | .ldpxI _ => 5
  | .ldpyI _ => 5
  | .ldXP _ => 5
  | .ldXH _ => 5
  | .ldXL _ => 5
  | .rrc _ => 5
  | .ldYP _ => 5
  | .ldYH _ => 5
  | .ldYL _ => 5
  | .ldRXP _ => 5
  | .ldRXH _ => 5
  | .ldRXL _ => 5
  | .ldRYP _ => 5
  | .ldRYH _ => 5
  | .ldRYL _ => 5
  | .ldRQ _ _ => 5
  | .ldpxRQ _ _ => 5
  | .ldpyRQ _ _ => 5
  | .cpRQ _ _ => 7
  | .fanRQ _ _ => 7
  | .acpx _ => 7
  | .acpy _ => 7
  | .scpx _ => 7
  | .scpy _ => 7
  | .setF _ => 7
  | .rstF _ => 7
  | .incM _ => 7
  | .decM _ => 7
  | .ldMA _ => 5
  | .ldMB _ => 5
  | .ldAM _ => 5
  | .ldBM _ => 5
  | .push _ => 5
  | .pushXP => 5
  | .pushXH => 5
  | .pushXL => 5
  | .pushYP => 5
  | .pushYH => 5
  | .pushYL => 5
  | .pushF => 5
  | .decSP => 5
  | .pop _ => 5
  | .popXP => 5
  | .popXH => 5
  | .popXL => 5
  | .popYP => 5
  | .popYH => 5
  | .popYL => 5
  | .popF => 5
  | .incSP => 5
  | .rets => 12
  | .ret => 7
  | .ldSPH _ => 5
  | .ldRSPH _ => 5
  | .jpba => 5
  | .ldSPL _ => 5
  | .ldRSPL _ => 5
  | .halt => 5
  | .slp => 5
  | .nop5 => 5
  | .nop7 => 7
  | .scf => 7
  | .szf => 7
  | .sdf => 7
  | .ei => 7
  | .rcf => 7
  | .rzf => 7
  | .rdf => 7
  | .di => 7
  | .incX => 5
  | .incY => 5
  | .notA => 7
  | .notB => 7
  | .notMX => 7
  | .notMY => 7

/-- The ranges of opcode values of an instruction, first and last value, as 30_encoding.md R133, R134 and R136 list them. -/
def opRanges : Instr → List (Nat × Nat)
  | .jp _ => [(0x000, 0x0FF)]
  | .retd _ => [(0x100, 0x1FF)]
  | .jpC _ => [(0x200, 0x2FF)]
  | .jpNC _ => [(0x300, 0x3FF)]
  | .call _ => [(0x400, 0x4FF)]
  | .calz _ => [(0x500, 0x5FF)]
  | .jpZ _ => [(0x600, 0x6FF)]
  | .jpNZ _ => [(0x700, 0x7FF)]
  | .ldY _ => [(0x800, 0x8FF)]
  | .lbpx _ => [(0x900, 0x9FF)]
  | .adcXH _ => [(0xA00, 0xA0F)]
  | .adcXL _ => [(0xA10, 0xA1F)]
  | .adcYH _ => [(0xA20, 0xA2F)]
  | .adcYL _ => [(0xA30, 0xA3F)]
  | .cpXH _ => [(0xA40, 0xA4F)]
  | .cpXL _ => [(0xA50, 0xA5F)]
  | .cpYH _ => [(0xA60, 0xA6F)]
  | .cpYL _ => [(0xA70, 0xA7F)]
  | .addRQ _ _ => [(0xA80, 0xA8F)]
  | .adcRQ _ _ => [(0xA90, 0xA9F)]
  | .subRQ _ _ => [(0xAA0, 0xAAF)]
  | .sbcRQ _ _ => [(0xAB0, 0xABF)]
  | .andRQ _ _ => [(0xAC0, 0xACF)]
  | .orRQ _ _ => [(0xAD0, 0xADF)]
  | .xorRQ _ _ => [(0xAE0, 0xAEF)]
  | .rlc _ => [(0xAF0, 0xAF0), (0xAF5, 0xAF5), (0xAFA, 0xAFA), (0xAFF, 0xAFF)]
  | .undefined _ => [(0xAF1, 0xAF4), (0xAF6, 0xAF9), (0xAFB, 0xAFE), (0xE9C, 0xE9F), (0xEAC, 0xEAF), (0xEBC, 0xEBF),
      (0xED0, 0xEDF), (0xF20, 0xF27), (0xF30, 0xF37), (0xFCC, 0xFCF),
      (0xFDC, 0xFDD), (0xFE9, 0xFEF), (0xFFA, 0xFFA), (0xFFC, 0xFFE)]
  | .ldX _ => [(0xB00, 0xBFF)]
  | .addRI _ _ => [(0xC00, 0xC3F)]
  | .adcRI _ _ => [(0xC40, 0xC7F)]
  | .andRI _ _ => [(0xC80, 0xCBF)]
  | .orRI _ _ => [(0xCC0, 0xCFF)]
  | .xorRI _ _ => [(0xD00, 0xD3F)]
  | .sbcRI _ _ => [(0xD40, 0xD7F)]
  | .fanRI _ _ => [(0xD80, 0xDBF)]
  | .cpRI _ _ => [(0xDC0, 0xDFF)]
  | .ldRI _ _ => [(0xE00, 0xE3F)]
  | .pset _ => [(0xE40, 0xE5F)]
  | .ldpxI _ => [(0xE60, 0xE6F)]
  | .ldpyI _ => [(0xE70, 0xE7F)]
  | .ldXP _ => [(0xE80, 0xE83)]
  | .ldXH _ => [(0xE84, 0xE87)]
  | .ldXL _ => [(0xE88, 0xE8B)]
  | .rrc _ => [(0xE8C, 0xE8F)]
  | .ldYP _ => [(0xE90, 0xE93)]
  | .ldYH _ => [(0xE94, 0xE97)]
  | .ldYL _ => [(0xE98, 0xE9B)]
  | .ldRXP _ => [(0xEA0, 0xEA3)]
  | .ldRXH _ => [(0xEA4, 0xEA7)]
  | .ldRXL _ => [(0xEA8, 0xEAB)]
  | .ldRYP _ => [(0xEB0, 0xEB3)]
  | .ldRYH _ => [(0xEB4, 0xEB7)]
  | .ldRYL _ => [(0xEB8, 0xEBB)]
  | .ldRQ _ _ => [(0xEC0, 0xECF)]
  | .ldpxRQ _ _ => [(0xEE0, 0xEEF)]
  | .ldpyRQ _ _ => [(0xEF0, 0xEFF)]
  | .cpRQ _ _ => [(0xF00, 0xF0F)]
  | .fanRQ _ _ => [(0xF10, 0xF1F)]
  | .acpx _ => [(0xF28, 0xF2B)]
  | .acpy _ => [(0xF2C, 0xF2F)]
  | .scpx _ => [(0xF38, 0xF3B)]
  | .scpy _ => [(0xF3C, 0xF3F)]
  | .setF _ => [(0xF40, 0xF4F)]
  | .rstF _ => [(0xF50, 0xF5F)]
  | .incM _ => [(0xF60, 0xF6F)]
  | .decM _ => [(0xF70, 0xF7F)]
  | .ldMA _ => [(0xF80, 0xF8F)]
  | .ldMB _ => [(0xF90, 0xF9F)]
  | .ldAM _ => [(0xFA0, 0xFAF)]
  | .ldBM _ => [(0xFB0, 0xFBF)]
  | .push _ => [(0xFC0, 0xFC3)]
  | .pushXP => [(0xFC4, 0xFC4)]
  | .pushXH => [(0xFC5, 0xFC5)]
  | .pushXL => [(0xFC6, 0xFC6)]
  | .pushYP => [(0xFC7, 0xFC7)]
  | .pushYH => [(0xFC8, 0xFC8)]
  | .pushYL => [(0xFC9, 0xFC9)]
  | .pushF => [(0xFCA, 0xFCA)]
  | .decSP => [(0xFCB, 0xFCB)]
  | .pop _ => [(0xFD0, 0xFD3)]
  | .popXP => [(0xFD4, 0xFD4)]
  | .popXH => [(0xFD5, 0xFD5)]
  | .popXL => [(0xFD6, 0xFD6)]
  | .popYP => [(0xFD7, 0xFD7)]
  | .popYH => [(0xFD8, 0xFD8)]
  | .popYL => [(0xFD9, 0xFD9)]
  | .popF => [(0xFDA, 0xFDA)]
  | .incSP => [(0xFDB, 0xFDB)]
  | .rets => [(0xFDE, 0xFDE)]
  | .ret => [(0xFDF, 0xFDF)]
  | .ldSPH _ => [(0xFE0, 0xFE3)]
  | .ldRSPH _ => [(0xFE4, 0xFE7)]
  | .jpba => [(0xFE8, 0xFE8)]
  | .ldSPL _ => [(0xFF0, 0xFF3)]
  | .ldRSPL _ => [(0xFF4, 0xFF7)]
  | .halt => [(0xFF8, 0xFF8)]
  | .slp => [(0xFF9, 0xFF9)]
  | .nop5 => [(0xFFB, 0xFFB)]
  | .nop7 => [(0xFFF, 0xFFF)]
  | .scf => [(0xF41, 0xF41)]
  | .szf => [(0xF42, 0xF42)]
  | .sdf => [(0xF44, 0xF44)]
  | .ei => [(0xF48, 0xF48)]
  | .rcf => [(0xF5E, 0xF5E)]
  | .rzf => [(0xF5D, 0xF5D)]
  | .rdf => [(0xF5B, 0xF5B)]
  | .di => [(0xF57, 0xF57)]
  | .incX => [(0xEE0, 0xEE0)]
  | .incY => [(0xEF0, 0xEF0)]
  | .notA => [(0xD0F, 0xD0F)]
  | .notB => [(0xD1F, 0xD1F)]
  | .notMX => [(0xD2F, 0xD2F)]
  | .notMY => [(0xD3F, 0xD3F)]

/-- Whether a value lies in a range of an instruction. -/
def inRanges (i : Instr) (op : Opcode) : Bool :=
  (opRanges i).any (fun r => decide (r.1 ≤ op.toNat) && decide (op.toNat ≤ r.2))

/-! ## Steps and runs -/

/-- The state after one step (a step always answers a next state, 60_exceptions.md R315). -/
def after (s : State) : State :=
  match step s with
  | .next t => t
  | .fault _ => s
  | .refused _ => s

/-- The state after `n` steps and the sum of the cycles they returned. -/
def run : Nat → State → Nat × State
  | 0, s => (0, s)
  | n + 1, s =>
    let r := run n (after s)
    ((after s).cost + r.1, r.2)

/-! ## Reset values (10_state.md R20 to R35, 70_reset_and_hazards.md R400) -/

/-- Every register, flag and latch of the core 0, `PC` and `NPC` at `RESET_PC` (70_reset_and_hazards.md R400). -/
def documentedCpu (p : Params) : Cpu :=
  { a := 0, b := 0, xp := 0, xh := 0, xl := 0, yp := 0, yh := 0, yl := 0, sp := 0, pc := p.resetPc, npc := p.resetPc,
    fC := false, fZ := false, fD := false, fI := false, halt := false, resetLatch := false, intDelay := false }

/-- A P port with the driven latch 0, the host pin levels 0xF and nothing linked, latched as an input or as an output (10_state.md
R33, 20_memory.md R78). -/
def documentedPort (out : Bool) : PPort :=
  { pd := 0, pl := 0xF, ld := none, pv := if out then 0 else 0xF, drive := if out then some 0 else none }

/-- The table of 10_state.md R33: everything 0 but the K levels at their pull-ups, `LCD_CTRL` = 0x8, and the P ports. -/
def documentedIo (p : Params) : Io :=
  { ift := 0, ifsw := 0, ipt := false, isio := false, ik0 := false, ik1 := false,
    eit := 0, eisw := 0, eipt := false, eisio := false, eik0 := 0, eik1 := 0,
    tm := 0, swl := 0, swh := 0, pt := 0, rd := 0, sd := 0, sioMask := 0, dfk0 := 0,
    kl0 := p.k0Pullup, kl1 := p.k1Pullup, r0 := 0, r1 := 0, r2 := 0, r3 := 0, r4 := 0,
    p0 := documentedPort false, p1 := documentedPort false, p2 := documentedPort false,
    p3 := documentedPort (decide (p.port3Dedicated = true ∧ p.p3DedicatedDir = .output)),
    ioc := 0, pup := 0, ctrlOsc := 0, lcdCtrl := 0x8, lcdContrast := 0, svd := 0, bzfq := 0,
    shtpw := false, enrtm := false, enon := false, ptc := 0, sioc := 0, hzc := 0, swrun := false, ptrun := false }

/-! ## The interrupt check (60_exceptions.md R304, R306, R307) -/

/-- The number of a source in the priority order of 60_exceptions.md R304, 1 the highest. -/
def priority : IntSource → Nat
  | .pt => 1
  | .sio => 2
  | .k1 => 3
  | .k0 => 4
  | .sw => 5
  | .tm => 6

/-- Whether a source is pending and enabled, bit by bit (60_exceptions.md R307). -/
def isPending (io : Io) : IntSource → Prop
  | .tm => ∃ i, i < 4 ∧ io.ift.getLsbD i = true ∧ io.eit.getLsbD i = true
  | .sw => ∃ i, i < 2 ∧ io.ifsw.getLsbD i = true ∧ io.eisw.getLsbD i = true
  | .pt => io.ipt = true ∧ io.eipt = true
  | .sio => io.isio = true ∧ io.eisio = true
  | .k0 => io.ik0 = true
  | .k1 => io.ik1 = true

/-- The source that an interrupt check enters: it is pending and no source of a higher priority is (60_exceptions.md R308). -/
def isTaken (io : Io) (src : IntSource) : Prop :=
  isPending io src ∧ ∀ other, isPending io other → priority src ≤ priority other

/-- The vector of a source (60_exceptions.md R304). -/
def vectorNum : IntSource → Nat
  | .pt => 0x0C
  | .sio => 0x0A
  | .k1 => 0x08
  | .k0 => 0x06
  | .sw => 0x04
  | .tm => 0x02

/-- The entries counted for a source (10_state.md R37). -/
def countOf (d : Diag) : IntSource → Nat
  | .pt => d.counts.pt
  | .sio => d.counts.sio
  | .k1 => d.counts.k1
  | .k0 => d.counts.k0
  | .sw => d.counts.sw
  | .tm => d.counts.tm

/-! ## The invariant -/

/-- `NPC[7:0] = PC[7:0]` (10_state.md R25), and `intDelay` is 0 at a step boundary (60_exceptions.md R305). -/
def CoreOk (c : Cpu) : Prop := pcStep c.npc = pcStep c.pc ∧ c.intDelay = false

/-- The memories have their canonical form. -/
def MemOk (b : Bus) : Prop := Memory.wf 768 b.ram = true ∧ Memory.wf 160 b.vram = true

/-- The latched port values and the driven outputs are those of `Relatch()` (20_memory.md R78). -/
def PortsOk (p : Params) (b : Bus) : Prop := relatch p b.io = b.io

/-- The last buzzer event is the current one and the last request the current one (60_exceptions.md R351, R352). -/
def BuzzerOk (p : Params) (b : Bus) : Prop :=
  b.bz.prevRequest = buzzerRequest p b ∧ b.bz.lastEvent = buzzerEvent p b

/-- The digits of the stopwatch are 0 to 9 (60_exceptions.md R335), the serial write mask is not full (20_memory.md R75), a one-shot
counts while it is active, and the envelope counts while its level is not 0 (60_exceptions.md R355). -/
def CountersOk (b : Bus) : Prop :=
  b.io.swl.toNat ≤ 9 ∧ b.io.swh.toNat ≤ 9 ∧ b.io.sioMask ≠ 3#2 ∧ (b.bz.shotActive = true ↔ 0 < b.bz.shotCount) ∧
    (0 < b.bz.envLevel.val → 0 < b.bz.envCount)

/-- The residuals lie between 0 and their divisors (60_exceptions.md R321, R330, R335, R342). -/
def ClockOk (p : Params) (b : Bus) : Prop :=
  (0 ≤ b.clk.oscResidual ∧ b.clk.oscResidual ≤ oscDiv p) ∧ (0 ≤ b.clk.tmResidual ∧ b.clk.tmResidual ≤ p.clkTimerDiv) ∧
    (0 ≤ b.clk.swResidual ∧ b.clk.swResidual ≤ p.swDiv) ∧ 0 ≤ b.clk.ptResidual

/-- The interrupt count is the sum of the counts of the sources (60_exceptions.md R314). -/
def DiagOk (d : Diag) : Prop :=
  d.interruptCount = d.counts.pt + d.counts.sio + d.counts.k1 + d.counts.k0 + d.counts.sw + d.counts.tm

/-- The invariant of the machine. -/
def Inv (s : State) : Prop :=
  s.params.wf = true ∧ CoreOk s.cpu ∧ MemOk s.bus ∧ PortsOk s.params s.bus ∧ BuzzerOk s.params s.bus ∧ CountersOk s.bus ∧
    ClockOk s.params s.bus ∧ DiagOk s.diag

end Sys2Proof.Safety
end

