-- ==== Sys2Proof/Certificates/Slice0/Obligations.lean ====
section
/-! DEFINITION. The statements about the model. Each docstring names the rules of spec/ that a statement formalises, or the log entry
of the choice it states. -/

section

open Sys2Proof Sys2Proof.Machine Sys2Proof.Safety

/-! ## Encoding -/

/-- 30_encoding.md R131, R133, R136: decoding the encoding of a well-formed instruction gives its base instruction, which is the
instruction itself unless it is an alias spelling. -/
def Obligations.DecodeOfEncode : Prop :=
  ∀ i : Instr, i.wf = true → decode (encode i) = i.base ∧ (i.isAlias = false → decode (encode i) = i)

/-- 30_encoding.md R133, R138: every value decodes to a well-formed instruction whose row holds it, never to an alias, and the
encoding of that instruction is the value. -/
def Obligations.OpcodeMap : Prop :=
  ∀ op : Opcode, inRanges (decode op) op = true ∧ (decode op).wf = true ∧ (decode op).isAlias = false ∧
    encode (decode op) = op

/-- 30_encoding.md R131, R133, 95_test_vectors.md W3: words written out from the opcode map, at the edges of the 4-entry ranges. -/
def Obligations.DecodedWords : Prop :=
  decode 0xE83#12 = .ldXP .my ∧ decode 0xE84#12 = .ldXH .a ∧ decode 0xE8F#12 = .rrc .my ∧ decode 0xE90#12 = .ldYP .a ∧
    decode 0xE9C#12 = .undefined 0xE9C#12 ∧ decode 0xEA3#12 = .ldRXP .my ∧ decode 0xF2B#12 = .acpx .my ∧
    decode 0xF2C#12 = .acpy .a ∧ decode 0xF3B#12 = .scpx .my ∧ decode 0xF3C#12 = .scpy .a ∧ decode 0xFE7#12 = .ldRSPH .my ∧
    decode 0xFE8#12 = .jpba ∧ decode 0x123#12 = .retd 0x23#8 ∧ decode 0xE53#12 = .pset 0x13#5 ∧ decode 0xA81#12 = .addRQ .a .b

/-- 30_encoding.md R136: the value of each alias spelling decodes to its base instruction, and the spelling does what the base
instruction does. -/
def Obligations.AliasSpellings : Prop :=
  ∀ s : State,
    (decode 0xF41#12 = .setF 0x1#4 ∧ exec .scf s = exec (.setF 0x1#4) s) ∧
    (decode 0xF42#12 = .setF 0x2#4 ∧ exec .szf s = exec (.setF 0x2#4) s) ∧
    (decode 0xF44#12 = .setF 0x4#4 ∧ exec .sdf s = exec (.setF 0x4#4) s) ∧
    (decode 0xF48#12 = .setF 0x8#4 ∧ exec .ei s = exec (.setF 0x8#4) s) ∧
    (decode 0xF5E#12 = .rstF 0xE#4 ∧ exec .rcf s = exec (.rstF 0xE#4) s) ∧
    (decode 0xF5D#12 = .rstF 0xD#4 ∧ exec .rzf s = exec (.rstF 0xD#4) s) ∧
    (decode 0xF5B#12 = .rstF 0xB#4 ∧ exec .rdf s = exec (.rstF 0xB#4) s) ∧
    (decode 0xF57#12 = .rstF 0x7#4 ∧ exec .di s = exec (.rstF 0x7#4) s) ∧
    (decode 0xEE0#12 = .ldpxRQ .a .a ∧ exec .incX s = exec (.ldpxRQ .a .a) s) ∧
    (decode 0xEF0#12 = .ldpyRQ .a .a ∧ exec .incY s = exec (.ldpyRQ .a .a) s) ∧
    (decode 0xD0F#12 = .xorRI .a 0xF#4 ∧ exec .notA s = exec (.xorRI .a 0xF#4) s) ∧
    (decode 0xD1F#12 = .xorRI .b 0xF#4 ∧ exec .notB s = exec (.xorRI .b 0xF#4) s) ∧
    (decode 0xD2F#12 = .xorRI .mx 0xF#4 ∧ exec .notMX s = exec (.xorRI .mx 0xF#4) s) ∧
    (decode 0xD3F#12 = .xorRI .my 0xF#4 ∧ exec .notMY s = exec (.xorRI .my 0xF#4) s)

/-! ## Fetch and step -/

/-- 20_memory.md R62: the word and the opcode fetched at a word address. -/
def Obligations.RomFetch : Prop :=
  ∀ s : State,
    let p := s.params
    let n := p.rom.length
    let a := 2 * s.cpu.pc.toNat % n
    let b0 := (p.rom.getD a 0#8).toNat
    let b1 := (p.rom.getD ((a + 1) % n) 0#8).toNat
    (n = 0 → (romWord p s.cpu.pc).toNat = 0 ∧ (fetch s).toNat = 0) ∧
    (0 < n → p.romWordOrder = .big →
      (romWord p s.cpu.pc).toNat = 256 * b0 + b1 ∧ (fetch s).toNat = (256 * b0 + b1) / 16) ∧
    (0 < n → p.romWordOrder = .little →
      (romWord p s.cpu.pc).toNat = 256 * b1 + b0 ∧ (fetch s).toNat = (256 * b1 + b0) / 16)

/-- The model's choice of log entry 12: the instruction placed by `withFetchWord` is the one the next step runs, from every state,
whatever the length of its ROM. -/
def Obligations.PlacedWordRuns : Prop :=
  ∀ (s : State) (op : Opcode),
    let u := s.withFetchWord 16 op.toNat
    fetch u = op ∧ u.bus = s.bus ∧ u.cpu = { s.cpu with halt := false, resetLatch := false } ∧
      ∀ t, exec (decode op) u = .next t →
        step u = .next (finishStep (isPset op) (epilogue s.cpu.fI (isPset op) t))

/-- 60_exceptions.md R300: with neither latch set, a step executes the instruction its fetch decodes to, then sets `NPC` to `PC`
unless it was a PSET, arms the enable delay when `I` went from 0 to 1, makes the interrupt check, and advances the clock
network by the whole cost. -/
def Obligations.StepRunsDecodedInstruction : Prop :=
  ∀ (s t : State) (i : Instr), s.cpu.resetLatch = false → s.cpu.halt = false → decode (fetch s) = i → i.wf = true →
    exec i s = .next t →
    let pset := decide (0xE40 ≤ (fetch s).toNat ∧ (fetch s).toNat ≤ 0xE5F)
    let npc := if pset then t.cpu.npc else t.cpu.pc
    let arm := if s.cpu.fI = false ∧ t.cpu.fI = true then true else t.cpu.intDelay
    let u := interruptCheck pset { t with cpu := { t.cpu with npc := npc, intDelay := arm } }
    step s = .next { u with bus := clockAdvance u.params u.cost u.bus }

/-- The spec's own inference of 60_exceptions.md R315 from 20_memory.md R61, with 00_scope.md R10 and 70_reset_and_hazards.md
R420: every instruction answers a next state in every state, with the cycles of the timing table; it changes no parameter, the
ROM among them, and no diagnostic counter; and a step always answers a next state. -/
def Obligations.NothingStops : Prop :=
  (∀ (i : Instr) (s : State), ∃ t, exec i s = .next t ∧ t.cost = cycleCost s.params i ∧ t.params = s.params ∧ t.diag = s.diag) ∧
    ∀ s : State, ∃ t, step s = .next t ∧ t.params = s.params

/-- 60_exceptions.md R302: a step returns the cycles of the instruction, or `HALT_STEP_CYCLES`, plus `INT_CYCLES` exactly when an
interrupt was entered. -/
def Obligations.StepCycles : Prop :=
  ∀ s t : State, step s = .next t →
    let base := if s.cpu.resetLatch || s.cpu.halt then s.params.haltStepCycles else cycleCost s.params (decode (fetch s))
    (t.diag.interruptCount = s.diag.interruptCount ∧ t.cost = base) ∨
      (t.diag.interruptCount = s.diag.interruptCount + 1 ∧ t.cost = base + s.params.intCycles)

/-- The spec's own inference of 10_state.md R25 and 70_reset_and_hazards.md R410 from 41_branch.md R150 and 60_exceptions.md R300:
after a step `NPC` is `PC`, unless the instruction was a PSET and no interrupt was entered: then it holds the pending bank and
page over the step of `PC`. A jump in the next step goes there; after any other instruction `NPC` is `PC` again. -/
def Obligations.PendingPage : Prop :=
  ∀ s t : State, s.cpu.resetLatch = false → s.cpu.halt = false → step s = .next t →
    ((∀ p, decode (fetch s) ≠ .pset p) → t.cpu.npc = t.cpu.pc) ∧
    (t.diag.interruptCount ≠ s.diag.interruptCount → t.cpu.npc = t.cpu.pc) ∧
    (∀ p, decode (fetch s) = .pset p → t.diag.interruptCount = s.diag.interruptCount →
      t.cpu.npc = pcAt (p.toNat / 16) (p.toNat % 16) (pcStep t.cpu.pc) ∧
      ∀ e, exec (.jp e) t = .next { t with cpu := { t.cpu with pc := pcAt (p.toNat / 16) (p.toNat % 16) e.toNat }, cost := 5 })

/-! ## Halt and interrupts -/

/-- 42_system.md R174, and for the reset latch log entry 16 (DEDUCED from 60_exceptions.md R300): a halted step is an interrupt
check over the unchanged state with the cost `HALT_STEP_CYCLES`, then the clock network by the total; it counts its halted
cycles; when it enters no interrupt it changes no register, flag or memory cell. With the reset latch set only the returned
cycles change. -/
def Obligations.HaltedStep : Prop :=
  ∀ s t : State, step s = .next t →
    (s.cpu.resetLatch = true → t = { s with cost := s.params.haltStepCycles }) ∧
    (s.cpu.resetLatch = false → s.cpu.halt = true →
      let u := interruptCheck false
        { s with
          cost := s.params.haltStepCycles
          diag := { s.diag with haltedCycles := s.diag.haltedCycles + s.params.haltStepCycles } }
      t = { u with bus := clockAdvance u.params u.cost u.bus } ∧
      t.diag.haltedCycles = s.diag.haltedCycles + s.params.haltStepCycles ∧
      (t.diag.interruptCount = s.diag.interruptCount →
        t.cpu = { s.cpu with intDelay := false } ∧ t.bus = clockAdvance s.params s.params.haltStepCycles s.bus ∧
          t.bus.ram = s.bus.ram ∧ t.bus.vram = s.bus.vram))

/-- The spec's own inference of 42_system.md R175: of all steps, only one that enters an interrupt leaves the halt; a pending
enabled interrupt ends it in one step; and reset clears it. -/
def Obligations.LeavingHalt : Prop :=
  ∀ s : State, s.cpu.halt = true →
    (∀ t, step s = .next t → t.cpu.halt = false → t.diag.interruptCount = s.diag.interruptCount + 1) ∧
    (∀ src, s.cpu.resetLatch = false → s.cpu.intDelay = false → s.cpu.fI = true → isTaken s.bus.io src →
      ∃ t, step s = .next t ∧ t.cpu.halt = false ∧ t.cpu.fI = false ∧
        t.cpu.pc = pcAt (pcBank s.cpu.pc) 1 (vectorNum src)) ∧
    (resetOp s).cpu.halt = false

/-- 60_exceptions.md R304, R306, R307, R308: when an interrupt check enters nothing, and everything it does when it enters the
pending source of the highest priority. -/
def Obligations.InterruptCheckAndEntry : Prop :=
  ∀ (pset : Bool) (s : State),
    (s.cpu.intDelay = true → interruptCheck pset s = { s with cpu := { s.cpu with intDelay := false } }) ∧
    (s.cpu.intDelay = false →
      (s.cpu.fI = false ∨ (s.params.psetMasksInterrupt = true ∧ pset = true) ∨ ∀ src, ¬ isPending s.bus.io src) →
      interruptCheck pset s = s) ∧
    (s.cpu.intDelay = false → s.cpu.fI = true → ¬ (s.params.psetMasksInterrupt = true ∧ pset = true) →
      ∀ src, isTaken s.bus.io src →
      let target := pcAt (pcBank s.cpu.pc) 1 (vectorNum src)
      ∃ d : Diag,
        interruptCheck pset s =
          { s with
            cpu := { s.cpu with sp := spDown s.cpu.sp 3, fI := false, halt := false, pc := target, npc := target }
            bus := pushedReturn s.cpu.sp s.cpu.pc s
            diag := d
            cost := s.cost + s.params.intCycles } ∧
        d.interruptCount = s.diag.interruptCount + 1 ∧ d.lastVector.toNat = 256 + vectorNum src ∧
        d.haltedCycles = s.diag.haltedCycles ∧
        ∀ k, countOf d k = countOf s.diag k + (if k = src then 1 else 0))

/-- 60_exceptions.md R305 with the spec's own inferences of 70_reset_and_hazards.md R411 and R412 from it: the step whose
instruction takes `I` from 0 to 1 enters no interrupt and leaves `I` set with no delay pending, and only SET F, its spelling
EI, or POP F can be that instruction. -/
def Obligations.EnableDelay : Prop :=
  ∀ s t u : State, s.cpu.resetLatch = false → s.cpu.halt = false → s.cpu.fI = false →
    exec (decode (fetch s)) s = .next u → u.cpu.fI = true → step s = .next t →
    t.diag.interruptCount = s.diag.interruptCount ∧ t.cpu.fI = true ∧ t.cpu.intDelay = false ∧
      t.cpu.pc = u.cpu.pc ∧ ((∃ i, decode (fetch s) = .setF i) ∨ decode (fetch s) = .popF)

/-- The spec's own inference of 41_branch.md R163 from R158 to R160: what a call or an interrupt entry pushes is what a return
takes back, whatever happened in between to the rest of the machine, as long as the three stack cells and `SP` are as they
were left. The memories are canonical (an invariant, StepKeepsInvariant). -/
def Obligations.CallReturn : Prop :=
  ∀ (s u : State) (r : PcWord), MemOk s.bus →
    u.params = s.params → u.cpu.sp = spDown s.cpu.sp 3 →
    (∀ k, k < 3 → peek u.params (stackAddr (spUp u.cpu.sp k)) u.bus =
      peek s.params (stackAddr (spUp u.cpu.sp k)) (pushReturn r s).bus) →
    ∃ v, exec .ret u = .next v ∧ v.cpu.sp = s.cpu.sp ∧
      v.cpu.pc = BitVec.ofNat 13 (4096 * pcBank u.cpu.pc + r.toNat % 4096)

/-! ## Instructions: result, flags, cycles, and everything else unchanged -/

/-- 47_arith.md R250, R253, R254, R255 to R258: ADD and ADC. -/
def Obligations.AddResults : Prop :=
  ∀ (r q : Sel) (i : Nib) (s : State),
    let b1 := srcBus r s s.bus
    let x := (srcValue r s s.bus).toNat
    let y := (srcValue q s b1).toNat
    let b2 := srcBus q s b1
    let c := s.cpu.fC.toNat
    (decode (opc (0xC00 + 16 * selNum r + i.toNat)) = .addRI r i ∧
      exec (.addRI r i) s = .next (addDone r (x + i.toNat) b1 s)) ∧
    (decode (opc (0xA80 + 4 * selNum r + selNum q)) = .addRQ r q ∧
      exec (.addRQ r q) s = .next (addDone r (x + y) b2 s)) ∧
    (decode (opc (0xC40 + 16 * selNum r + i.toNat)) = .adcRI r i ∧
      exec (.adcRI r i) s = .next (addDone r (x + i.toNat + c) b1 s)) ∧
    (decode (opc (0xA90 + 4 * selNum r + selNum q)) = .adcRQ r q ∧
      exec (.adcRQ r q) s = .next (addDone r (x + y + c) b2 s))

/-- 47_arith.md R251, R253, R254, R259 to R261: SUB and SBC. -/
def Obligations.SubResults : Prop :=
  ∀ (r q : Sel) (i : Nib) (s : State),
    let b1 := srcBus r s s.bus
    let x : Int := (srcValue r s s.bus).toNat
    let y : Int := (srcValue q s b1).toNat
    let b2 := srcBus q s b1
    let c : Int := s.cpu.fC.toNat
    (decode (opc (0xAA0 + 4 * selNum r + selNum q)) = .subRQ r q ∧
      exec (.subRQ r q) s = .next (subDone r (x - y) b2 s)) ∧
    (decode (opc (0xD40 + 16 * selNum r + i.toNat)) = .sbcRI r i ∧
      exec (.sbcRI r i) s = .next (subDone r (x - i.toNat - c) b1 s)) ∧
    (decode (opc (0xAB0 + 4 * selNum r + selNum q)) = .sbcRQ r q ∧
      exec (.sbcRQ r q) s = .next (subDone r (x - y - c) b2 s))

/-- 47_arith.md R253, R254, R262 to R267: AND, OR, XOR, NOT. -/
def Obligations.LogicResults : Prop :=
  ∀ (r q : Sel) (i : Nib) (s : State),
    let b1 := srcBus r s s.bus
    let x := srcValue r s s.bus
    let y := srcValue q s b1
    let b2 := srcBus q s b1
    (decode (opc (0xC80 + 16 * selNum r + i.toNat)) = .andRI r i ∧
      exec (.andRI r i) s = .next (logicDone r (x &&& i) b1 s)) ∧
    (decode (opc (0xAC0 + 4 * selNum r + selNum q)) = .andRQ r q ∧
      exec (.andRQ r q) s = .next (logicDone r (x &&& y) b2 s)) ∧
    (decode (opc (0xCC0 + 16 * selNum r + i.toNat)) = .orRI r i ∧
      exec (.orRI r i) s = .next (logicDone r (x ||| i) b1 s)) ∧
    (decode (opc (0xAD0 + 4 * selNum r + selNum q)) = .orRQ r q ∧
      exec (.orRQ r q) s = .next (logicDone r (x ||| y) b2 s)) ∧
    (decode (opc (0xD00 + 16 * selNum r + i.toNat)) = .xorRI r i ∧
      exec (.xorRI r i) s = .next (logicDone r (x ^^^ i) b1 s)) ∧
    (decode (opc (0xAE0 + 4 * selNum r + selNum q)) = .xorRQ r q ∧
      exec (.xorRQ r q) s = .next (logicDone r (x ^^^ y) b2 s)) ∧
    exec .notA s = .next (logicDone .a (~~~ srcValue .a s s.bus) (srcBus .a s s.bus) s) ∧
    exec .notB s = .next (logicDone .b (~~~ srcValue .b s s.bus) (srcBus .b s s.bus) s) ∧
    exec .notMX s = .next (logicDone .mx (~~~ srcValue .mx s s.bus) (srcBus .mx s s.bus) s) ∧
    exec .notMY s = .next (logicDone .my (~~~ srcValue .my s s.bus) (srcBus .my s s.bus) s)

/-- 47_arith.md R252, R254, R268 to R271: CP and FAN write only flags, and CP ignores D. -/
def Obligations.CompareResults : Prop :=
  ∀ (r q : Sel) (i : Nib) (s : State),
    let b1 := srcBus r s s.bus
    let x := srcValue r s s.bus
    let y := srcValue q s b1
    let b2 := srcBus q s b1
    (decode (opc (0xDC0 + 16 * selNum r + i.toNat)) = .cpRI r i ∧
      exec (.cpRI r i) s = .next (flagsDone (decide (x.toNat < i.toNat)) (decide (x = i)) 7 b1 s)) ∧
    (decode (opc (0xF00 + 4 * selNum r + selNum q)) = .cpRQ r q ∧
      exec (.cpRQ r q) s = .next (flagsDone (decide (x.toNat < y.toNat)) (decide (x = y)) 7 b2 s)) ∧
    (decode (opc (0xD80 + 16 * selNum r + i.toNat)) = .fanRI r i ∧
      exec (.fanRI r i) s = .next (flagsDone s.cpu.fC (decide (x &&& i = 0#4)) 7 b1 s)) ∧
    (decode (opc (0xF10 + 4 * selNum r + selNum q)) = .fanRQ r q ∧
      exec (.fanRQ r q) s = .next (flagsDone s.cpu.fC (decide (x &&& y = 0#4)) 7 b2 s))

/-- 47_arith.md R273, R274: the rotates through carry, Z written exactly when `ROT_WRITES_Z`; the values of the row of RLC whose
two selectors differ are undefined. -/
def Obligations.RotateResults : Prop :=
  ∀ (r : Sel) (s : State),
    let b1 := srcBus r s s.bus
    let x := (srcValue r s s.bus).toNat
    let left := 2 * x % 16 + s.cpu.fC.toNat
    let right := x / 2 + 8 * s.cpu.fC.toNat
    let z := fun res : Nat => if s.params.rotWritesZ then decide (res = 0) else s.cpu.fZ
    (decode (opc (0xAF0 + 5 * selNum r)) = .rlc r ∧
      exec (.rlc r) s = .next (aluDone r left (decide (8 ≤ x)) (z left) 7 b1 s)) ∧
    (decode (opc (0xE8C + selNum r)) = .rrc r ∧
      exec (.rrc r) s = .next (aluDone r right (decide (x % 2 = 1)) (z right) 5 b1 s)) ∧
    ∀ q, q ≠ r →
      decode (opc (0xAF0 + 4 * selNum r + selNum q)) = .undefined (opc (0xAF0 + 4 * selNum r + selNum q))

/-- 47_arith.md R252, R275, R276: INC Mn and DEC Mn count a RAM nibble in binary, whatever D holds. -/
def Obligations.MemoryCountResults : Prop :=
  ∀ (n : Nib) (s : State),
    let x := (Memory.read s.bus.ram n.toNat).toNat
    let up := (x + 1) % 16
    let down := (x + 15) % 16
    (decode (opc (0xF60 + n.toNat)) = .incM n ∧
      exec (.incM n) s = .next (flagsDone (decide (x = 15)) (decide (up = 0)) 7
        { s.bus with ram := Memory.write s.bus.ram n.toNat (BitVec.ofNat 4 up) } s)) ∧
    (decode (opc (0xF70 + n.toNat)) = .decM n ∧
      exec (.decM n) s = .next (flagsDone (decide (x = 0)) (decide (down = 0)) 7
        { s.bus with ram := Memory.write s.bus.ram n.toNat (BitVec.ofNat 4 down) } s))

/-- 43_index.md R181, 47_arith.md R254, R277 to R280: the digit at the index register is read, then the operand, then the digit is
written at the old index, which counts up by 1. -/
def Obligations.MultiDigitResults : Prop :=
  ∀ (r : Sel) (s : State),
    let d := s.cpu.fD
    let bx := srcBus .mx s s.bus
    let vx : Int := (srcValue .mx s s.bus).toNat
    let rx : Int := (srcValue r s bx).toNat
    let by' := srcBus .my s s.bus
    let vy : Int := (srcValue .my s s.bus).toNat
    let ry : Int := (srcValue r s by').toNat
    let c : Int := s.cpu.fC.toNat
    let stepX := fun (digit : Nat) (carry : Bool) =>
      { s with
        cpu := { bumpX 1 s.cpu with pc := nextPc s.cpu.pc, fC := carry, fZ := decide (digit = 0) }
        bus := busWrite s.params s.cpu.ix (BitVec.ofNat 4 digit) (srcBus r s bx)
        cost := 7 }
    let stepY := fun (digit : Nat) (carry : Bool) =>
      { s with
        cpu := { bumpY 1 s.cpu with pc := nextPc s.cpu.pc, fC := carry, fZ := decide (digit = 0) }
        bus := busWrite s.params s.cpu.iy (BitVec.ofNat 4 digit) (srcBus r s by')
        cost := 7 }
    (decode (opc (0xF28 + selNum r)) = .acpx r ∧
      exec (.acpx r) s = .next (stepX (sumDigit d (vx + rx + c).toNat) (sumCarry d (vx + rx + c).toNat))) ∧
    (decode (opc (0xF2C + selNum r)) = .acpy r ∧
      exec (.acpy r) s = .next (stepY (sumDigit d (vy + ry + c).toNat) (sumCarry d (vy + ry + c).toNat))) ∧
    (decode (opc (0xF38 + selNum r)) = .scpx r ∧
      exec (.scpx r) s = .next (stepX (diffDigit d (vx - rx - c)) (diffBorrow (vx - rx - c)))) ∧
    (decode (opc (0xF3C + selNum r)) = .scpy r ∧
      exec (.scpy r) s = .next (stepY (diffDigit d (vy - ry - c)) (diffBorrow (vy - ry - c))))

/-- 41_branch.md R150 to R155, R157: PSET, the jumps and JPBA. A jump goes to the bank and page of `NPC`. -/
def Obligations.JumpResults : Prop :=
  ∀ (p : BitVec 5) (e : Byte) (s : State),
    let goTo := fun pc : PcWord => { s with cpu := { s.cpu with pc := pc }, cost := 5 }
    let target := fun st : Nat => pcAt (pcBank s.cpu.npc) (pcPage s.cpu.npc) st
    let next := nextPc s.cpu.pc
    (decode (opc (0xE40 + p.toNat)) = .pset p ∧
      exec (.pset p) s = .next { s with
        cpu := { s.cpu with pc := next, npc := pcAt (p.toNat / 16) (p.toNat % 16) (pcStep next) }, cost := 5 }) ∧
    (decode (opc (0x000 + e.toNat)) = .jp e ∧ exec (.jp e) s = .next (goTo (target e.toNat))) ∧
    (decode (opc (0x200 + e.toNat)) = .jpC e ∧
      exec (.jpC e) s = .next (goTo (if s.cpu.fC = true then target e.toNat else next))) ∧
    (decode (opc (0x300 + e.toNat)) = .jpNC e ∧
      exec (.jpNC e) s = .next (goTo (if s.cpu.fC = false then target e.toNat else next))) ∧
    (decode (opc (0x600 + e.toNat)) = .jpZ e ∧
      exec (.jpZ e) s = .next (goTo (if s.cpu.fZ = true then target e.toNat else next))) ∧
    (decode (opc (0x700 + e.toNat)) = .jpNZ e ∧
      exec (.jpNZ e) s = .next (goTo (if s.cpu.fZ = false then target e.toNat else next))) ∧
    (decode (opc 0xFE8) = .jpba ∧
      exec .jpba s = .next (goTo (target (16 * s.cpu.b.toNat + s.cpu.a.toNat))))

/-- 41_branch.md R158, R159: CALL and CALZ push the return address, keep the bank, and go to the pending page or to page 0. -/
def Obligations.CallResults : Prop :=
  ∀ (e : Byte) (s : State),
    let called := fun page : Nat =>
      { s with
        cpu := { s.cpu with sp := spDown s.cpu.sp 3, pc := pcAt (pcBank s.cpu.pc) page e.toNat }
        bus := pushedReturn s.cpu.sp (nextPc s.cpu.pc) s
        cost := 7 }
    (decode (opc (0x400 + e.toNat)) = .call e ∧ exec (.call e) s = .next (called (pcPage s.cpu.npc))) ∧
    (decode (opc (0x500 + e.toNat)) = .calz e ∧ exec (.calz e) s = .next (called 0))

/-- 41_branch.md R160 to R162: RET, RETS and RETD. -/
def Obligations.ReturnResults : Prop :=
  ∀ (e : Byte) (s : State),
    let back := { s.cpu with sp := spUp s.cpu.sp 3, pc := returnPc s }
    (decode (opc 0xFDF) = .ret ∧ exec .ret s = .next { s with cpu := back, cost := 7 }) ∧
    (decode (opc 0xFDE) = .rets ∧ exec .rets s = .next { s with cpu := { back with pc := nextPc (returnPc s) }, cost := 12 }) ∧
    (decode (opc (0x100 + e.toNat)) = .retd e ∧
      exec (.retd e) s = .next { s with cpu := bumpX 2 back, bus := storedByte e s, cost := 12 })

/-- 42_system.md R170 to R173, R176, 30_encoding.md R134: NOP5, NOP7, HALT, SLP, and the undefined values, which do nothing in
`UNDEF_CYCLES`. -/
def Obligations.SystemResults : Prop :=
  ∀ (op : Opcode) (s : State),
    let idle := fun n : Nat => { s with cpu := nextCpu s.cpu, cost := n }
    let stop := { s with cpu := { s.cpu with pc := nextPc s.cpu.pc, halt := true }, cost := 5 }
    (decode (opc 0xFFB) = .nop5 ∧ exec .nop5 s = .next (idle 5)) ∧
    (decode (opc 0xFFF) = .nop7 ∧ exec .nop7 s = .next (idle 7)) ∧
    (decode (opc 0xFF8) = .halt ∧ exec .halt s = .next stop) ∧
    (decode (opc 0xFF9) = .slp ∧ exec .slp s = .next stop) ∧
    ((decode op = .undefined op ↔ undefinedOpcode op = true) ∧ exec (.undefined op) s = .next (idle s.params.undefCycles)) ∧
    ((List.range 4096).filter (fun n => undefinedOpcode (opc n))).length = 73

/-- 43_index.md R180 to R183, R186 to R189: the loads of index registers and nibbles, and the copies of index nibbles to an
operand. -/
def Obligations.IndexLoadResults : Prop :=
  ∀ (e : Byte) (r : Sel) (s : State),
    let hi := BitVec.ofNat 4 (e.toNat / 16)
    let lo := BitVec.ofNat 4 e.toNat
    let v := srcValue r s s.bus
    let load := fun c : Cpu => { s with cpu := nextCpu c, bus := srcBus r s s.bus, cost := 5 }
    let copy := fun n : Nib => { s with cpu := nextCpu (dstCpu r n s.cpu), bus := dstBus r n s s.bus, cost := 5 }
    (decode (opc (0xB00 + e.toNat)) = .ldX e ∧
      exec (.ldX e) s = .next { s with cpu := nextCpu { s.cpu with xh := hi, xl := lo }, cost := 5 }) ∧
    (decode (opc (0x800 + e.toNat)) = .ldY e ∧
      exec (.ldY e) s = .next { s with cpu := nextCpu { s.cpu with yh := hi, yl := lo }, cost := 5 }) ∧
    exec .incX s = .next { s with cpu := nextCpu (bumpX 1 s.cpu), cost := 5 } ∧
    exec .incY s = .next { s with cpu := nextCpu (bumpY 1 s.cpu), cost := 5 } ∧
    (decode (opc (0xE80 + selNum r)) = .ldXP r ∧ exec (.ldXP r) s = .next (load { s.cpu with xp := v })) ∧
    (decode (opc (0xE84 + selNum r)) = .ldXH r ∧ exec (.ldXH r) s = .next (load { s.cpu with xh := v })) ∧
    (decode (opc (0xE88 + selNum r)) = .ldXL r ∧ exec (.ldXL r) s = .next (load { s.cpu with xl := v })) ∧
    (decode (opc (0xE90 + selNum r)) = .ldYP r ∧ exec (.ldYP r) s = .next (load { s.cpu with yp := v })) ∧
    (decode (opc (0xE94 + selNum r)) = .ldYH r ∧ exec (.ldYH r) s = .next (load { s.cpu with yh := v })) ∧
    (decode (opc (0xE98 + selNum r)) = .ldYL r ∧ exec (.ldYL r) s = .next (load { s.cpu with yl := v })) ∧
    (decode (opc (0xEA0 + selNum r)) = .ldRXP r ∧ exec (.ldRXP r) s = .next (copy s.cpu.xp)) ∧
    (decode (opc (0xEA4 + selNum r)) = .ldRXH r ∧ exec (.ldRXH r) s = .next (copy s.cpu.xh)) ∧
    (decode (opc (0xEA8 + selNum r)) = .ldRXL r ∧ exec (.ldRXL r) s = .next (copy s.cpu.xl)) ∧
    (decode (opc (0xEB0 + selNum r)) = .ldRYP r ∧ exec (.ldRYP r) s = .next (copy s.cpu.yp)) ∧
    (decode (opc (0xEB4 + selNum r)) = .ldRYH r ∧ exec (.ldRYH r) s = .next (copy s.cpu.yh)) ∧
    (decode (opc (0xEB8 + selNum r)) = .ldRYL r ∧ exec (.ldRYL r) s = .next (copy s.cpu.yl))

/-- 43_index.md R190, R191: ADC and CP on the index nibbles, in binary whatever D holds. -/
def Obligations.IndexArithResults : Prop :=
  ∀ (i : Nib) (s : State),
    let total := fun v : Nib => v.toNat + i.toNat + s.cpu.fC.toNat
    let added := fun (c : Cpu) (v : Nib) =>
      { s with
        cpu := { c with
          pc := nextPc s.cpu.pc, fC := decide (16 ≤ total v), fZ := decide (total v % 16 = 0) }
        cost := 7 }
    let sum := fun v : Nib => BitVec.ofNat 4 (total v)
    let compared := fun v : Nib => flagsDone (decide (v.toNat < i.toNat)) (decide (v = i)) 7 s.bus s
    (decode (opc (0xA00 + i.toNat)) = .adcXH i ∧
      exec (.adcXH i) s = .next (added { s.cpu with xh := sum s.cpu.xh } s.cpu.xh)) ∧
    (decode (opc (0xA10 + i.toNat)) = .adcXL i ∧
      exec (.adcXL i) s = .next (added { s.cpu with xl := sum s.cpu.xl } s.cpu.xl)) ∧
    (decode (opc (0xA20 + i.toNat)) = .adcYH i ∧
      exec (.adcYH i) s = .next (added { s.cpu with yh := sum s.cpu.yh } s.cpu.yh)) ∧
    (decode (opc (0xA30 + i.toNat)) = .adcYL i ∧
      exec (.adcYL i) s = .next (added { s.cpu with yl := sum s.cpu.yl } s.cpu.yl)) ∧
    (decode (opc (0xA40 + i.toNat)) = .cpXH i ∧ exec (.cpXH i) s = .next (compared s.cpu.xh)) ∧
    (decode (opc (0xA50 + i.toNat)) = .cpXL i ∧ exec (.cpXL i) s = .next (compared s.cpu.xl)) ∧
    (decode (opc (0xA60 + i.toNat)) = .cpYH i ∧ exec (.cpYH i) s = .next (compared s.cpu.yh)) ∧
    (decode (opc (0xA70 + i.toNat)) = .cpYL i ∧ exec (.cpYL i) s = .next (compared s.cpu.yl))

/-- 44_transfer.md R200 to R205: the loads and stores. -/
def Obligations.LoadResults : Prop :=
  ∀ (r q : Sel) (i : Nib) (s : State),
    let moved := fun (v : Nib) (b : Bus) => { s with cpu := nextCpu (dstCpu r v s.cpu), bus := dstBus r v s b, cost := 5 }
    let cell := Memory.read s.bus.ram i.toNat
    let stored := fun v : Nib =>
      { s with cpu := nextCpu s.cpu, bus := { s.bus with ram := Memory.write s.bus.ram i.toNat v }, cost := 5 }
    (decode (opc (0xE00 + 16 * selNum r + i.toNat)) = .ldRI r i ∧ exec (.ldRI r i) s = .next (moved i s.bus)) ∧
    (decode (opc (0xEC0 + 4 * selNum r + selNum q)) = .ldRQ r q ∧
      exec (.ldRQ r q) s = .next (moved (srcValue q s s.bus) (srcBus q s s.bus))) ∧
    (decode (opc (0xFA0 + i.toNat)) = .ldAM i ∧
      exec (.ldAM i) s = .next { s with cpu := nextCpu { s.cpu with a := cell }, cost := 5 }) ∧
    (decode (opc (0xFB0 + i.toNat)) = .ldBM i ∧
      exec (.ldBM i) s = .next { s with cpu := nextCpu { s.cpu with b := cell }, cost := 5 }) ∧
    (decode (opc (0xF80 + i.toNat)) = .ldMA i ∧ exec (.ldMA i) s = .next (stored s.cpu.a)) ∧
    (decode (opc (0xF90 + i.toNat)) = .ldMB i ∧ exec (.ldMB i) s = .next (stored s.cpu.b))

/-- 43_index.md R181, 44_transfer.md R206 to R210: the transfers that count an index register up. -/
def Obligations.AutoIncrementResults : Prop :=
  ∀ (r q : Sel) (i : Nib) (e : Byte) (s : State),
    let v := srcValue q s s.bus
    let b := dstBus r v s (srcBus q s s.bus)
    (decode (opc (0xE60 + i.toNat)) = .ldpxI i ∧
      exec (.ldpxI i) s = .next { s with
        cpu := nextCpu (bumpX 1 s.cpu), bus := busWrite s.params s.cpu.ix i s.bus, cost := 5 }) ∧
    (decode (opc (0xEE0 + 4 * selNum r + selNum q)) = .ldpxRQ r q ∧
      exec (.ldpxRQ r q) s = .next { s with cpu := nextCpu (bumpX 1 (dstCpu r v s.cpu)), bus := b, cost := 5 }) ∧
    (decode (opc (0xE70 + i.toNat)) = .ldpyI i ∧
      exec (.ldpyI i) s = .next { s with
        cpu := nextCpu (bumpY 1 s.cpu), bus := busWrite s.params s.cpu.iy i s.bus, cost := 5 }) ∧
    (decode (opc (0xEF0 + 4 * selNum r + selNum q)) = .ldpyRQ r q ∧
      exec (.ldpyRQ r q) s = .next { s with cpu := nextCpu (bumpY 1 (dstCpu r v s.cpu)), bus := b, cost := 5 }) ∧
    (decode (opc (0x900 + e.toNat)) = .lbpx e ∧
      exec (.lbpx e) s = .next { s with cpu := nextCpu (bumpX 2 s.cpu), bus := storedByte e s, cost := 5 })

/-- 10_state.md R27, 45_flag.md R220, R221, 30_encoding.md R136: SET F, RST F and their spellings, flag by flag. -/
def Obligations.FlagResults : Prop :=
  ∀ (i : Nib) (s : State),
    let m := s.cpu
    let done := fun (fI fD fZ fC : Bool) =>
      { s with cpu := { m with pc := nextPc m.pc, fI := fI, fD := fD, fZ := fZ, fC := fC }, cost := 7 }
    (decode (opc (0xF40 + i.toNat)) = .setF i ∧
      exec (.setF i) s = .next (done (m.fI || i.getLsbD 3) (m.fD || i.getLsbD 2) (m.fZ || i.getLsbD 1) (m.fC || i.getLsbD 0))) ∧
    (decode (opc (0xF50 + i.toNat)) = .rstF i ∧
      exec (.rstF i) s = .next (done (m.fI && i.getLsbD 3) (m.fD && i.getLsbD 2) (m.fZ && i.getLsbD 1) (m.fC && i.getLsbD 0))) ∧
    exec .scf s = .next (done m.fI m.fD m.fZ true) ∧ exec .rcf s = .next (done m.fI m.fD m.fZ false) ∧
    exec .szf s = .next (done m.fI m.fD true m.fC) ∧ exec .rzf s = .next (done m.fI m.fD false m.fC) ∧
    exec .sdf s = .next (done m.fI true m.fZ m.fC) ∧ exec .rdf s = .next (done m.fI false m.fZ m.fC) ∧
    exec .ei s = .next (done true m.fD m.fZ m.fC) ∧ exec .di s = .next (done false m.fD m.fZ m.fC)

/-- 46_stack.md R230, R231, R239 to R242: the instructions that count, load and read `SP`. -/
def Obligations.StackPointerResults : Prop :=
  ∀ (r : Sel) (s : State),
    let sp := s.cpu.sp.toNat
    let v := (srcValue r s s.bus).toNat
    let setTo := fun (n : Nat) (b : Bus) =>
      { s with cpu := { s.cpu with pc := nextPc s.cpu.pc, sp := BitVec.ofNat 8 n }, bus := b, cost := 5 }
    let copy := fun n : Nat =>
      { s with cpu := nextCpu (dstCpu r (BitVec.ofNat 4 n) s.cpu), bus := dstBus r (BitVec.ofNat 4 n) s s.bus, cost := 5 }
    (decode (opc 0xFDB) = .incSP ∧ exec .incSP s = .next (setTo ((sp + 1) % 256) s.bus)) ∧
    (decode (opc 0xFCB) = .decSP ∧ exec .decSP s = .next (setTo ((sp + 255) % 256) s.bus)) ∧
    (decode (opc (0xFE0 + selNum r)) = .ldSPH r ∧
      exec (.ldSPH r) s = .next (setTo (16 * v + sp % 16) (srcBus r s s.bus))) ∧
    (decode (opc (0xFF0 + selNum r)) = .ldSPL r ∧
      exec (.ldSPL r) s = .next (setTo (16 * (sp / 16) + v) (srcBus r s s.bus))) ∧
    (decode (opc (0xFE4 + selNum r)) = .ldRSPH r ∧ exec (.ldRSPH r) s = .next (copy (sp / 16))) ∧
    (decode (opc (0xFF4 + selNum r)) = .ldRSPL r ∧ exec (.ldRSPL r) s = .next (copy (sp % 16)))

/-- 46_stack.md R232, R234, R236: every push counts `SP` down modulo 256 and then stores the nibble at `M(SP)`, a RAM cell. -/
def Obligations.PushResults : Prop :=
  ∀ (r : Sel) (s : State),
    let pushed := fun (v : Nib) (b : Bus) =>
      { s with
        cpu := { s.cpu with pc := nextPc s.cpu.pc, sp := spDown s.cpu.sp 1 }
        bus := { b with ram := Memory.write b.ram (spDown s.cpu.sp 1).toNat v }
        cost := 5 }
    (decode (opc (0xFC0 + selNum r)) = .push r ∧
      exec (.push r) s = .next (pushed (srcValue r s s.bus) (srcBus r s s.bus))) ∧
    (decode (opc 0xFC4) = .pushXP ∧ exec .pushXP s = .next (pushed s.cpu.xp s.bus)) ∧
    (decode (opc 0xFC5) = .pushXH ∧ exec .pushXH s = .next (pushed s.cpu.xh s.bus)) ∧
    (decode (opc 0xFC6) = .pushXL ∧ exec .pushXL s = .next (pushed s.cpu.xl s.bus)) ∧
    (decode (opc 0xFC7) = .pushYP ∧ exec .pushYP s = .next (pushed s.cpu.yp s.bus)) ∧
    (decode (opc 0xFC8) = .pushYH ∧ exec .pushYH s = .next (pushed s.cpu.yh s.bus)) ∧
    (decode (opc 0xFC9) = .pushYL ∧ exec .pushYL s = .next (pushed s.cpu.yl s.bus)) ∧
    (decode (opc 0xFCA) = .pushF ∧ exec .pushF s = .next (pushed (BitVec.ofNat 4 (flagNum s.cpu)) s.bus))

/-- 46_stack.md R233, R235, R237: every pop reads the nibble at `M(SP)`, a RAM cell, and counts `SP` up modulo 256. -/
def Obligations.PopResults : Prop :=
  ∀ (r : Sel) (s : State),
    let v := Memory.read s.bus.ram s.cpu.sp.toNat
    let popped := fun (c : Cpu) (b : Bus) =>
      { s with cpu := { c with pc := nextPc s.cpu.pc, sp := spUp s.cpu.sp 1 }, bus := b, cost := 5 }
    (decode (opc (0xFD0 + selNum r)) = .pop r ∧
      exec (.pop r) s = .next (popped (dstCpu r v s.cpu) (dstBus r v s s.bus))) ∧
    (decode (opc 0xFD4) = .popXP ∧ exec .popXP s = .next (popped { s.cpu with xp := v } s.bus)) ∧
    (decode (opc 0xFD5) = .popXH ∧ exec .popXH s = .next (popped { s.cpu with xh := v } s.bus)) ∧
    (decode (opc 0xFD6) = .popXL ∧ exec .popXL s = .next (popped { s.cpu with xl := v } s.bus)) ∧
    (decode (opc 0xFD7) = .popYP ∧ exec .popYP s = .next (popped { s.cpu with yp := v } s.bus)) ∧
    (decode (opc 0xFD8) = .popYH ∧ exec .popYH s = .next (popped { s.cpu with yh := v } s.bus)) ∧
    (decode (opc 0xFD9) = .popYL ∧ exec .popYL s = .next (popped { s.cpu with yl := v } s.bus)) ∧
    (decode (opc 0xFDA) = .popF ∧
      exec .popF s = .next (popped
        { s.cpu with fI := v.getLsbD 3, fD := v.getLsbD 2, fZ := v.getLsbD 1, fC := v.getLsbD 0 } s.bus))

/-! ## Frames over all instructions -/

/-- 20_memory.md R87, R88, R91: what a read of a data address returns is the same before and after an instruction, for every
address that no store of the instruction reaches or decides, unless the instruction reads it and it is a factor-flag register. -/
def Obligations.MemoryFrame : Prop :=
  ∀ (i : Instr) (s t : State) (a : Addr), exec i s = .next t →
    (∀ w, w ∈ stores i s → storeChanges w a = false) → (a ∈ reads i s → isFactorAddr a = false) →
    peek t.params a t.bus = peek s.params a s.bus

/-- 10_state.md R28, 70_reset_and_hazards.md R416, 45_flag.md R222: an instruction leaves every register, flag and latch
unchanged, `PC` apart, but for those its rule lets it write. -/
def Obligations.RegisterFrame : Prop :=
  ∀ (i : Instr) (s t : State) (k : Reg), exec i s = .next t → k ∉ writes s.params i → regValue t.cpu k = regValue s.cpu k

/-- 45_flag.md R222: a step changes `D` only by SET F, RST F or POP F; an interrupt entry in it does not change `D`. -/
def Obligations.DecimalFlagWriters : Prop :=
  ∀ s t : State, step s = .next t → t.cpu.fD ≠ s.cpu.fD →
    s.cpu.resetLatch = false ∧ s.cpu.halt = false ∧
      ((∃ i, decode (fetch s) = .setF i) ∨ (∃ i, decode (fetch s) = .rstF i) ∨ decode (fetch s) = .popF)

/-! ## Data memory and the I/O registers -/

/-- 20_memory.md R63, R64, R68 to R70: RAM and VRAM hold what was last written to them, at the cells their addresses name; a write
changes nothing else but, for VRAM, the display generation, and a read changes nothing. The memories are canonical (an
invariant, StepKeepsInvariant). -/
def Obligations.DataMemory : Prop :=
  ∀ (p : Params) (a : Addr) (v : Nib) (b : Bus), MemOk b →
    let n := a.toNat
    let i := if n < 0xE80 then n - 0xE00 else n - 0xE80 + 80
    let vram := (0xE00 ≤ n ∧ n ≤ 0xE4F) ∨ (0xE80 ≤ n ∧ n ≤ 0xECF)
    (n ≤ 0x2FF → peek p a b = Memory.read b.ram n ∧ ack a b = b ∧
      busWrite p a v b = { b with ram := (busWrite p a v b).ram }) ∧
    (vram → peek p a b = Memory.read b.vram i ∧ ack a b = b ∧
      busWrite p a v b =
        { b with
          vram := (busWrite p a v b).vram
          displayGeneration := if peek p a b = v then b.displayGeneration else b.displayGeneration + 1 }) ∧
    (n ≤ 0x2FF ∨ vram → peek p a (busWrite p a v b) = v ∧ ∀ a', a' ≠ a → peek p a' (busWrite p a v b) = peek p a' b)

/-- 20_memory.md R65, R67, R72: an address in no region, or undecoded in the I/O window, reads 0, and neither a read nor a write
of it has an effect. -/
def Obligations.UnmappedAddresses : Prop :=
  ∀ (p : Params) (a : Addr) (v : Nib) (b : Bus),
    let n := a.toNat
    ((0x300 ≤ n ∧ n ≤ 0xDFF) ∨ (0xE50 ≤ n ∧ n ≤ 0xE7F) ∨ (0xED0 ≤ n ∧ n ≤ 0xEFF) ∨ 0xF80 ≤ n ∨
      (0xF06 ≤ n ∧ n ≤ 0xF0F) ∨ (0xF16 ≤ n ∧ n ≤ 0xF1F) ∨ (0xF28 ≤ n ∧ n ≤ 0xF2F) ∨ (0xF32 ≤ n ∧ n ≤ 0xF3F) ∨
      (0xF43 ≤ n ∧ n ≤ 0xF4F) ∨ (0xF55 ≤ n ∧ n ≤ 0xF5F) ∨ (0xF64 ≤ n ∧ n ≤ 0xF6F) ∨ n = 0xF7C ∨ n = 0xF7F) →
    peek p a b = 0#4 ∧ ack a b = b ∧ busWrite p a v b = b

/-- 20_memory.md R71, R73: a read of a factor-flag register returns its flags and clears them, all of them and nothing else; a
write to it is ignored. -/
def Obligations.ReadToAcknowledge : Prop :=
  ∀ (p : Params) (a : Addr) (v : Nib) (b : Bus),
    (peek p 0xF00#12 b = b.io.ift ∧ ack 0xF00#12 b = { b with io := { b.io with ift := 0#4 } }) ∧
    ((peek p 0xF01#12 b).toNat = b.io.ifsw.toNat ∧ ack 0xF01#12 b = { b with io := { b.io with ifsw := 0#2 } }) ∧
    ((peek p 0xF02#12 b).toNat = b.io.ipt.toNat ∧ ack 0xF02#12 b = { b with io := { b.io with ipt := false } }) ∧
    ((peek p 0xF03#12 b).toNat = b.io.isio.toNat ∧ ack 0xF03#12 b = { b with io := { b.io with isio := false } }) ∧
    ((peek p 0xF04#12 b).toNat = b.io.ik0.toNat ∧ ack 0xF04#12 b = { b with io := { b.io with ik0 := false } }) ∧
    ((peek p 0xF05#12 b).toNat = b.io.ik1.toNat ∧ ack 0xF05#12 b = { b with io := { b.io with ik1 := false } }) ∧
    (isFactorAddr a = true → peek p a (ack a b) = 0#4 ∧ busWrite p a v b = b) ∧
    (isFactorAddr a = false → ack a b = b)

/-- 20_memory.md R71, R72, R74, R76, R83: what each writable register reads as after a write, by the bits it stores; the read-only
registers ignore writes; every register that is no factor flag and no P port reads as its field, with no side effect; and a
write to a mask, reload, select, output or stored-only register writes its field and changes nothing else. -/
def Obligations.RegisterReadBack : Prop :=
  ∀ (p : Params) (a : Addr) (v : Nib) (b : Bus),
    let back := fun m : Nib => peek p a (busWrite p a v b) = v &&& m
    let io := b.io
    let get := fun n : Nat => (peek p (BitVec.ofNat 12 n) b).toNat
    let set := fun (n : Nat) (new : Io) => busWrite p (BitVec.ofNat 12 n) v b = { b with io := new }
    (a ∈ [0xF10#12, 0xF14#12, 0xF15#12, 0xF26#12, 0xF27#12, 0xF30#12, 0xF31#12, 0xF41#12, 0xF50#12, 0xF51#12, 0xF52#12,
      0xF53#12, 0xF54#12, 0xF70#12, 0xF71#12, 0xF72#12, 0xF73#12, 0xF7A#12, 0xF7B#12, 0xF7D#12, 0xF7E#12] → back 0xF#4) ∧
    (a ∈ [0xF74#12, 0xF79#12] → back 0x7#4) ∧
    (a = 0xF11#12 → back 0x3#4) ∧ (a = 0xF77#12 → back 0x2#4) ∧ (a = 0xF76#12 → back 0x0#4) ∧
    (a ∈ [0xF12#12, 0xF13#12, 0xF78#12] → back 0x1#4) ∧
    (a = 0xF75#12 → peek p a (busWrite p a v b) = (v &&& 0x7#4) ||| (if b.bz.shotActive || v.getLsbD 3 then 0x8#4 else 0x0#4)) ∧
    (a ∈ [0xF20#12, 0xF21#12, 0xF22#12, 0xF23#12, 0xF24#12, 0xF25#12, 0xF40#12, 0xF42#12] → busWrite p a v b = b) ∧
    (get 0xF10 = io.eit.toNat ∧ get 0xF11 = io.eisw.toNat ∧ get 0xF12 = io.eipt.toNat ∧ get 0xF13 = io.eisio.toNat ∧
      get 0xF14 = io.eik0.toNat ∧ get 0xF15 = io.eik1.toNat) ∧
    (get 0xF20 = io.tm.toNat % 16 ∧ get 0xF21 = io.tm.toNat / 16 ∧ get 0xF22 = io.swl.toNat ∧ get 0xF23 = io.swh.toNat ∧
      get 0xF24 = io.pt.toNat % 16 ∧ get 0xF25 = io.pt.toNat / 16 ∧ get 0xF26 = io.rd.toNat % 16 ∧ get 0xF27 = io.rd.toNat / 16) ∧
    (get 0xF30 = io.sd.toNat % 16 ∧ get 0xF31 = io.sd.toNat / 16 ∧
      get 0xF40 = io.kl0.toNat ∧ get 0xF41 = io.dfk0.toNat ∧ get 0xF42 = io.kl1.toNat) ∧
    (get 0xF50 = io.r0.toNat ∧ get 0xF51 = io.r1.toNat ∧ get 0xF52 = io.r2.toNat ∧ get 0xF53 = io.r3.toNat ∧
      get 0xF54 = io.r4.toNat) ∧
    (get 0xF70 = io.ctrlOsc.toNat ∧ get 0xF71 = io.lcdCtrl.toNat ∧ get 0xF72 = io.lcdContrast.toNat ∧ get 0xF73 = io.svd.toNat ∧
      get 0xF74 = io.bzfq.toNat ∧
      get 0xF75 = 8 * b.bz.shotActive.toNat + 4 * io.shtpw.toNat + 2 * io.enrtm.toNat + io.enon.toNat ∧
      get 0xF76 = 0 ∧ get 0xF77 = 2 * io.swrun.toNat ∧ get 0xF78 = io.ptrun.toNat ∧ get 0xF79 = io.ptc.toNat ∧
      get 0xF7A = io.sioc.toNat ∧ get 0xF7B = io.hzc.toNat ∧ get 0xF7D = io.ioc.toNat ∧ get 0xF7E = io.pup.toNat) ∧
    (isFactorAddr a = false → ack a b = b) ∧
    (set 0xF10 { io with eit := v } ∧ set 0xF11 { io with eisw := BitVec.ofNat 2 v.toNat } ∧
      set 0xF12 { io with eipt := v.getLsbD 0 } ∧ set 0xF13 { io with eisio := v.getLsbD 0 } ∧
      set 0xF14 { io with eik0 := v } ∧ set 0xF15 { io with eik1 := v } ∧ set 0xF41 { io with dfk0 := v }) ∧
    (set 0xF26 { io with rd := BitVec.ofNat 8 (16 * (io.rd.toNat / 16) + v.toNat) } ∧
      set 0xF27 { io with rd := BitVec.ofNat 8 (16 * v.toNat + io.rd.toNat % 16) } ∧
      set 0xF79 { io with ptc := BitVec.ofNat 3 v.toNat }) ∧
    (set 0xF50 { io with r0 := v } ∧ set 0xF51 { io with r1 := v } ∧ set 0xF52 { io with r2 := v } ∧ set 0xF53 { io with r3 := v }) ∧
    (set 0xF70 { io with ctrlOsc := v } ∧ set 0xF72 { io with lcdContrast := v } ∧ set 0xF73 { io with svd := v } ∧
      set 0xF7A { io with sioc := v } ∧ set 0xF7B { io with hzc := v } ∧ set 0xF7E { io with pup := v })

/-- 20_memory.md R75, 60_exceptions.md R368, R369: the serial registers: a byte goes out exactly when both halves have been
written since the last one, in either order; a received byte is latched with its factor flag and leaves the write mask. -/
def Obligations.SerialPort : Prop :=
  ∀ (s : State) (v : Nib) (w : Byte),
    let b := s.bus
    let lo := busWrite s.params 0xF30#12 v b
    let hi := busWrite s.params 0xF31#12 v b
    lo.io.sd.toNat = 16 * (b.io.sd.toNat / 16) + v.toNat ∧ hi.io.sd.toNat = 16 * v.toNat + b.io.sd.toNat % 16 ∧
    (b.io.sioMask.getLsbD 1 = true → lo.io.sioMask = 0#2 ∧ lo.events = b.events ++ [.serialOut lo.io.sd]) ∧
    (b.io.sioMask.getLsbD 1 = false → lo.io.sioMask = 1#2 ∧ lo.events = b.events) ∧
    (b.io.sioMask.getLsbD 0 = true → hi.io.sioMask = 0#2 ∧ hi.events = b.events ++ [.serialOut hi.io.sd]) ∧
    (b.io.sioMask.getLsbD 0 = false → hi.io.sioMask = 2#2 ∧ hi.events = b.events) ∧
    lo.io.isio = b.io.isio ∧ hi.io.isio = b.io.isio ∧
    injectSerialByte w s = { s with bus := { b with io := { b.io with sd := w, isio := true } } }

/-- 20_memory.md R78, 60_exceptions.md R363 to R365: after a write to a P port or to IOC, and after a host change or release of a
pin level or a change of a linked drive, every port is latched anew by its direction and nothing but the ports and IOC
changes; what a read of a port and `getPortDrive` return. The model's choice of log entry 15: a linked drive of any other port
number changes nothing, and such a port drives nothing. -/
def Obligations.PortRelatch : Prop :=
  ∀ (s : State) (n : Fin 4) (v : Nib) (x : Option Nat) (i : Fin 4) (level : Bool),
    let p := s.params
    let out := fun (io : Io) (k : Fin 4) =>
      if k = 3 ∧ p.port3Dedicated = true then p.p3DedicatedDir = .output else io.ioc.getLsbD k.val = true
    let sensed := fun q : PPort => q.pl &&& (match q.ld with | some d => d | none => 0xF#4)
    let latched := fun io : Io => ∀ k : Fin 4,
      (out io k → (io.port k).pv = (io.port k).pd ∧ (io.port k).drive = some (io.port k).pd) ∧
      (¬ out io k → (io.port k).pv = sensed (io.port k) ∧ (io.port k).drive = none)
    let portAddr := BitVec.ofNat 12 (0xF60 + n.val)
    let w := busWrite p portAddr v s.bus
    let c := busWrite p 0xF7D#12 v s.bus
    let pin := setPin (.p n) i.val level.toNat s
    let link := setLinkedPortDrive n.val x s
    let ported := fun new old : Io => { old with p0 := new.p0, p1 := new.p1, p2 := new.p2, p3 := new.p3 }
    (latched w.io ∧ (w.io.port n).pd = v) ∧ (latched c.io ∧ c.io.ioc = v) ∧
    (latched pin.bus.io ∧ ∀ k, (pin.bus.io.port n).pl.getLsbD k = if k = i.val then level else (s.bus.io.port n).pl.getLsbD k) ∧
    (latched link.bus.io ∧ (link.bus.io.port n).ld = x.map (BitVec.ofNat 4)) ∧
    releasePin (.p n) i.val s = setPin (.p n) i.val 1 s ∧
    (w = { s.bus with io := ported w.io s.bus.io } ∧ c = { s.bus with io := { ported c.io s.bus.io with ioc := v } } ∧
      pin = { s with bus := { s.bus with io := ported pin.bus.io s.bus.io } } ∧
      link = { s with bus := { s.bus with io := ported link.bus.io s.bus.io } }) ∧
    (∀ k : Fin 4,
      (k ≠ n → (w.io.port k).pd = (s.bus.io.port k).pd ∧ (pin.bus.io.port k).pl = (s.bus.io.port k).pl ∧
        (link.bus.io.port k).ld = (s.bus.io.port k).ld) ∧
      (w.io.port k).pl = (s.bus.io.port k).pl ∧ (w.io.port k).ld = (s.bus.io.port k).ld ∧
      (c.io.port k).pd = (s.bus.io.port k).pd ∧ (c.io.port k).pl = (s.bus.io.port k).pl ∧
      (c.io.port k).ld = (s.bus.io.port k).ld ∧
      (pin.bus.io.port k).pd = (s.bus.io.port k).pd ∧ (pin.bus.io.port k).ld = (s.bus.io.port k).ld ∧
      (link.bus.io.port k).pd = (s.bus.io.port k).pd ∧ (link.bus.io.port k).pl = (s.bus.io.port k).pl) ∧
    getPortDrive n.val s = (s.bus.io.port n).drive ∧
    (∀ j, 4 ≤ j → setLinkedPortDrive j x s = s ∧ getPortDrive j s = none) ∧
    (out s.bus.io n → peek p portAddr s.bus = (s.bus.io.port n).pd) ∧
    (¬ out s.bus.io n → peek p portAddr s.bus = sensed (s.bus.io.port n))

/-- 20_memory.md R81, 60_exceptions.md R332, R336, R343: the timer control writes, each with everything else unchanged. -/
def Obligations.TimerControls : Prop :=
  ∀ (p : Params) (v : Nib) (b : Bus),
    busWrite p 0xF76#12 v b = { b with io := { b.io with tm := if v.toNat % 2 = 1 then 0#8 else b.io.tm } } ∧
    busWrite p 0xF77#12 v b = { b with io := { b.io with
      swrun := decide (2 ≤ v.toNat % 4)
      swl := if v.toNat % 2 = 1 then 0#4 else b.io.swl
      swh := if v.toNat % 2 = 1 then 0#4 else b.io.swh } } ∧
    busWrite p 0xF78#12 v b = { b with io := { b.io with
      ptrun := decide (v.toNat % 2 = 1)
      pt := if 2 ≤ v.toNat % 4 then b.io.rd else b.io.pt } }

/-- 20_memory.md R79, 60_exceptions.md R370 to R372: LCD_CTRL counts the display generation exactly when it changes, blank-all
wins over all-on, the frame is VRAM, the P ports and R0 to R3, and the host gets a frame exactly when the generation moved. -/
def Obligations.Display : Prop :=
  ∀ (s : State) (v : Nib) (seen : Nat),
    let io := s.bus.io
    let frame := displayFrame s
    busWrite s.params 0xF71#12 v s.bus =
      { s.bus with
        io := { io with lcdCtrl := v }
        displayGeneration := if v = io.lcdCtrl then s.bus.displayGeneration else s.bus.displayGeneration + 1 } ∧
    frame.length = 168 ∧
    (8 ≤ io.lcdCtrl.toNat → ∀ n ∈ frame, n = 0#4) ∧
    (4 ≤ io.lcdCtrl.toNat ∧ io.lcdCtrl.toNat < 8 → ∀ n ∈ frame, n = 0xF#4) ∧
    (io.lcdCtrl.toNat < 4 →
      (∀ k, k < 160 → frame[k]? = some (Memory.read s.bus.vram k)) ∧
      frame.drop 160 = [io.p0.pv, io.p1.pv, io.p2.pv, io.p3.pv, io.r0, io.r1, io.r2, io.r3]) ∧
    (getDisplayGeneration seen s = none ↔ s.bus.displayGeneration = seen) ∧
    (s.bus.displayGeneration ≠ seen → getDisplayGeneration seen s = some (s.bus.displayGeneration, frame))

/-! ## The buzzer -/

/-- 20_memory.md R77, R80, 60_exceptions.md R350 to R354: a write to R4, BZC1 or BZC2 stores its bits, does its action, restarts
the envelope when the request rises, and emits an event exactly when the output changes. -/
def Obligations.BuzzerControls : Prop :=
  ∀ (p : Params) (v : Nib) (b : Bus),
    let settled := fun (b0 : Bus) (restart : Bool) (c : Bus) =>
      let req := (Bool.xor (b0.io.r4.getLsbD 3) p.bzActiveLow) || b0.bz.shotActive
      let again := restart || (req && !b.bz.prevRequest)
      let level : Nat := if again then 7 else b.bz.envLevel.val
      let count := if again then (if b0.io.enrtm then p.envStepTicks[1] else p.envStepTicks[0]) else b.bz.envCount
      let gain : Rat := if b0.io.enon then (level : Rat) / 7 else 1
      let hz : Rat := p.oscHz / (p.bzDiv.toList.getD b0.io.bzfq.toNat 1)
      let e : BuzzerEvent := if req = true ∧ 0 < gain then ⟨true, hz, gain⟩ else ⟨false, 0, 0⟩
      c.io = b0.io ∧ c.ram = b.ram ∧ c.vram = b.vram ∧ c.clk = b.clk ∧ c.displayGeneration = b.displayGeneration ∧
        c.bz.shotActive = b0.bz.shotActive ∧ c.bz.shotCount = b0.bz.shotCount ∧ c.bz.envLevel.val = level ∧
        c.bz.envCount = count ∧ c.bz.prevRequest = req ∧ c.bz.lastEvent = e ∧
        c.events = if e = b.bz.lastEvent then b.events else b.events ++ [.buzzer e]
    let fire := v.getLsbD 3 && !b.bz.shotActive
    let io2 := { b.io with shtpw := v.getLsbD 2, enrtm := v.getLsbD 1, enon := v.getLsbD 0 }
    settled { b with io := { b.io with r4 := v } } false (busWrite p 0xF54#12 v b) ∧
    settled { b with io := { b.io with bzfq := BitVec.ofNat 3 v.toNat } } (v.getLsbD 3) (busWrite p 0xF74#12 v b) ∧
    settled
      { b with
        io := io2
        bz := { b.bz with
          shotActive := b.bz.shotActive || v.getLsbD 3
          shotCount := if fire then (if v.getLsbD 2 then p.shotTicks[1] else p.shotTicks[0]) else b.bz.shotCount } }
      false (busWrite p 0xF75#12 v b)

/-- 60_exceptions.md R355: a one-shot of `n` ticks is active for exactly `n` buzzer ticks, and a restarted envelope steps its
level down by one every `ENV_STEP_TICKS` ticks until it is 0. -/
def Obligations.BuzzerTimes : Prop :=
  ∀ (p : Params) (b : Bus) (k : Nat), p.wf = true →
    let c := (buzzerTick p)^[k] b
    (b.bz.shotActive = true → 0 < b.bz.shotCount →
      (k < b.bz.shotCount → c.bz.shotActive = true ∧ c.bz.shotCount = b.bz.shotCount - k) ∧
      (k = b.bz.shotCount → c.bz.shotActive = false)) ∧
    (b.io.enon = true → tone p b = true → b.bz.prevRequest = true → b.bz.envLevel.val = 7 → b.bz.envCount = envStep p b →
      c.bz.envLevel.val = 7 - k / envStep p b)

/-! ## The clock network -/

/-- 60_exceptions.md R322: an oscillator tick counts and runs the main-timer, stopwatch, programmable-timer and buzzer ticks, each
with the effect it has on the state before the tick, so that none reads another's result; everything else is unchanged. -/
def Obligations.OscillatorTick : Prop :=
  ∀ (p : Params) (b : Bus),
    let m := mainTimerTick p b
    let w := stopwatchTick p b
    let t := progTimerTick p b
    let z := buzzerTick p b
    oscTick p b =
      { b with
        clk := { b.clk with
          oscTicks := b.clk.oscTicks + 1
          tmResidual := m.clk.tmResidual
          tmTicks := m.clk.tmTicks
          swResidual := w.clk.swResidual
          swTicks := w.clk.swTicks
          ptResidual := t.clk.ptResidual }
        io := { b.io with
          tm := m.io.tm
          ift := m.io.ift
          swl := w.io.swl
          swh := w.io.swh
          ifsw := w.io.ifsw
          pt := t.io.pt
          ipt := t.io.ipt }
        bz := z.bz
        events := z.events }

/-- 60_exceptions.md R320, R321: advancing by `n` cycles runs the least number of oscillator ticks that makes the residual
positive again, and replenishes it by `DIV` for each. -/
def Obligations.ClockAdvance : Prop :=
  ∀ (p : Params) (n : Nat) (b : Bus), p.wf = true →
    ∃ k : Nat,
      let r : Rat := b.clk.oscResidual - n + k * (p.cpuHz / p.oscHz)
      clockAdvance p n b = withOscResidual r (oscTicks p k b) ∧ 0 < r ∧ (0 < k → r ≤ p.cpuHz / p.oscHz)

/-- The spec's own inference of 60_exceptions.md R323 from R321: from construction with any arguments, the ROM among them, and
after any number of steps whose cycles sum to `T > 0`, there were `floor(T / DIV) + 1` oscillator ticks. -/
def Obligations.DriftBound : Prop :=
  ∀ (p : Params) (n : Nat), p.wf = true →
    let r := run n (State.construct p)
    0 < r.1 → (r.2.bus.clk.oscTicks : Int) = ((r.1 : Rat) / (p.cpuHz / p.oscHz)).floor + 1

/-- 60_exceptions.md R309, R330: the main timer counts when its residual runs out; IT32, IT8, IT2 and IT1 rise when bit 2, 4, 6
and 7 of it falls, whatever the masks, and a set flag stays. -/
def Obligations.MainTimer : Prop :=
  ∀ (p : Params) (b : Bus),
    let c := mainTimerTick p b
    let r := b.clk.tmResidual - 1
    let old := b.io.tm.toNat
    (0 < r → c = { b with clk := { b.clk with tmResidual := r } }) ∧
    (r ≤ 0 →
      c =
        { b with
          clk := { b.clk with tmResidual := r + p.clkTimerDiv, tmTicks := b.clk.tmTicks + 1 }
          io := { b.io with tm := BitVec.ofNat 8 (old + 1), ift := c.io.ift } } ∧
      c.io.ift.getLsbD 0 = (b.io.ift.getLsbD 0 || decide (old % 8 = 7)) ∧
      c.io.ift.getLsbD 1 = (b.io.ift.getLsbD 1 || decide (old % 32 = 31)) ∧
      c.io.ift.getLsbD 2 = (b.io.ift.getLsbD 2 || decide (old % 128 = 127)) ∧
      c.io.ift.getLsbD 3 = (b.io.ift.getLsbD 3 || decide (old = 255)))

/-- 60_exceptions.md R335: the running stopwatch counts hundredths modulo 100 in two BCD digits, ISW10 rising with the tenths and
ISW1 with the seconds; stopped, only its residual moves. -/
def Obligations.Stopwatch : Prop :=
  ∀ (p : Params) (b : Bus), b.io.swl.toNat ≤ 9 → b.io.swh.toNat ≤ 9 →
    let c := stopwatchTick p b
    let r := b.clk.swResidual - 1
    let next := 10 * b.io.swh.toNat + b.io.swl.toNat + 1
    (0 < r → c = { b with clk := { b.clk with swResidual := r } }) ∧
    (r ≤ 0 → b.io.swrun = false → c = { b with clk := { b.clk with swResidual := r + p.swDiv } }) ∧
    (r ≤ 0 → b.io.swrun = true →
      c =
        { b with
          clk := { b.clk with swResidual := r + p.swDiv, swTicks := b.clk.swTicks + 1 }
          io := { b.io with
            swl := BitVec.ofNat 4 (next % 10)
            swh := BitVec.ofNat 4 (next / 10 % 10)
            ifsw := c.io.ifsw } } ∧
      c.io.ifsw.getLsbD 0 = (b.io.ifsw.getLsbD 0 || decide (next % 10 = 0)) ∧
      c.io.ifsw.getLsbD 1 = (b.io.ifsw.getLsbD 1 || decide (next = 100)))

/-- 60_exceptions.md R341, R342: with no clock selected nothing moves; else the residual counts, and the running timer counts down
from any value, raises IPT when it reaches 0 and takes its reload data, then again after every `RD` counts, or every 256 with
`RD = 0`. -/
def Obligations.ProgrammableTimer : Prop :=
  (∀ (p : Params) (b : Bus),
    let c := progTimerTick p b
    let r := b.clk.ptResidual - 1
    let d := p.ptDiv.toList.getD b.io.ptc.toNat none
    (d = none → c = b) ∧
    (d ≠ none → 0 < r → c = { b with clk := { b.clk with ptResidual := r } }) ∧
    (∀ q, d = some q → r ≤ 0 →
      c = { b with
        clk := { b.clk with ptResidual := r + q }, io := if b.io.ptrun = true then progTimerCount b.io else b.io })) ∧
  ∀ (io : Io) (k : Nat),
    let m := if io.pt = 0#8 then 256 else io.pt.toNat
    let n := if io.rd = 0#8 then 256 else io.rd.toNat
    (k < m → progTimerCount^[k] io = { io with pt := BitVec.ofNat 8 (m - k) }) ∧
    (k = m → progTimerCount^[k] io = { io with pt := io.rd, ipt := true }) ∧
    (k < n → progTimerCount^[m + k] io = { io with pt := BitVec.ofNat 8 (n - k), ipt := true }) ∧
    (k = n → progTimerCount^[m + k] io = { io with pt := io.rd, ipt := true })

/-- 60_exceptions.md R324, R325: catch-up runs the capped number of oscillator ticks and returns it; it changes no register of the
core, no memory cell and not the oscillator residual, and enters no interrupt. -/
def Obligations.FastForward : Prop :=
  ∀ (n : Int) (s : State),
    let r := fastForward n s
    (r.1 : Int) = min (max n 0) s.params.ffCap ∧ r.2 = { s with bus := (oscTick s.params)^[r.1] s.bus } ∧
      r.2.bus.ram = s.bus.ram ∧ r.2.bus.vram = s.bus.vram ∧ r.2.bus.clk.oscResidual = s.bus.clk.oscResidual ∧
      r.2.bus.displayGeneration = s.bus.displayGeneration ∧ r.2.bus.clk.oscTicks = s.bus.clk.oscTicks + r.1

/-! ## The host interface -/

/-- 60_exceptions.md R360 to R362, R366: a K pin takes the level the host sets, or its pull-up when released; IK1 rises on a
falling edge of a K1 pin whose mask bit is set, IK0 on the edge that DFK0 selects; nothing else changes; a call with another
port, pin or level changes nothing. -/
def Obligations.KPortEdges : Prop :=
  ∀ (s : State) (i : Fin 4) (j : Nat) (level : Bool),
    let io := s.bus.io
    let k1 := setPin .k1 i.val level.toNat s
    let k0 := setPin .k0 i.val level.toNat s
    let was1 := io.kl1.getLsbD i.val
    let was0 := io.kl0.getLsbD i.val
    k1 = { s with bus := { s.bus with io := { io with kl1 := k1.bus.io.kl1, ik1 := k1.bus.io.ik1 } } } ∧
    (∀ k, k1.bus.io.kl1.getLsbD k = if k = i.val then level else io.kl1.getLsbD k) ∧
    k1.bus.io.ik1 = (io.ik1 || (was1 && !level && io.eik1.getLsbD i.val)) ∧
    k0 = { s with bus := { s.bus with io := { io with kl0 := k0.bus.io.kl0, ik0 := k0.bus.io.ik0 } } } ∧
    (∀ k, k0.bus.io.kl0.getLsbD k = if k = i.val then level else io.kl0.getLsbD k) ∧
    k0.bus.io.ik0 = (io.ik0 || ((was0 != level) && (level == io.dfk0.getLsbD i.val) && io.eik0.getLsbD i.val)) ∧
    releasePin .k1 i.val s = setPin .k1 i.val (s.params.k1Pullup.getLsbD i.val).toNat s ∧
    releasePin .k0 i.val s = setPin .k0 i.val (s.params.k0Pullup.getLsbD i.val).toNat s ∧
    (∀ port, (4 ≤ j → setPin port j level.toNat s = s ∧ releasePin port j s = s) ∧ (2 ≤ j → setPin port i.val j s = s)) ∧
    ∀ id l, setPin (.other id) j l s = s ∧ releasePin (.other id) j s = s

/-- 60_exceptions.md R303, in at most a given number of rounds (log entry 14): a run for cycles that answers returns at least its
target and less than the target plus the cost of its last step; it answers the first run of steps that reaches the target, if
that takes at most the given rounds, and it does so with rounds not fewer than the target when no step is free; with a target
of 0 or less it executes nothing. -/
def Obligations.RunForCycles : Prop :=
  ∀ (rounds : Nat) (target : Int) (s : State),
    (target ≤ 0 → runForCycles rounds target s = some (.next (0, s))) ∧
    (∀ acc t, 0 < target → runForCycles rounds target s = some (.next (acc, t)) →
      target ≤ acc ∧ (acc : Int) < target + t.cost ∧ ∃ n, n ≤ rounds ∧ run n s = (acc, t)) ∧
    (∀ n, n ≤ rounds → target ≤ (run n s).1 → (∀ m, m < n → ((run m s).1 : Int) < target) →
      runForCycles rounds target s = some (.next (run n s))) ∧
    (0 < s.params.undefCycles → 0 < s.params.haltStepCycles → target ≤ rounds →
      ∃ acc t, runForCycles rounds target s = some (.next (acc, t)))

/-- 70_reset_and_hazards.md R400, 10_state.md R33 and R36, and the spec's own inference of R402: reset gives every element its
reset value whatever the state and the parameters were, recomputes the buzzer's request and last event and emits that event
exactly when it changed (the tone of `BZ_ACTIVE_LOW`: log entry 9), counts the display generation once exactly when the
display changed, keeps the construction arguments, and done twice is done once. -/
def Obligations.Reset : Prop :=
  ∀ s : State,
    let t := resetOp s
    let p := s.params
    let e : BuzzerEvent := if p.bzActiveLow then ⟨true, p.oscHz / p.bzDiv[0], 1⟩ else ⟨false, 0, 0⟩
    let shown := (∃ i, i < 160 ∧ Memory.read s.bus.vram i ≠ 0#4) ∨ s.bus.io.lcdCtrl ≠ 0x8#4
    t.params = p ∧ t.cpu = documentedCpu p ∧ t.diag = ⟨0, 0, ⟨0, 0, 0, 0, 0, 0⟩, 0⟩ ∧
      (∀ i, Memory.read t.bus.ram i = 0#4 ∧ Memory.read t.bus.vram i = 0#4) ∧ t.bus.io = documentedIo p ∧
      t.bus.clk = ⟨0, 0, 0, 0, 0, 0, 0⟩ ∧
      t.bus.bz =
        { shotActive := false
          shotCount := 0
          envLevel := if p.bzActiveLow then 7 else 0
          envCount := if p.bzActiveLow then p.envStepTicks[0] else 0
          prevRequest := p.bzActiveLow
          lastEvent := e } ∧
      (t.bus.events = if s.bus.bz.lastEvent = e then s.bus.events else s.bus.events ++ [.buzzer e]) ∧
      (shown → t.bus.displayGeneration = s.bus.displayGeneration + 1) ∧
      (¬ shown → t.bus.displayGeneration = s.bus.displayGeneration) ∧
      resetOp t = t

/-- The spec's own summary, 70_reset_and_hazards.md R403, of R400 and the reset values of 10_state.md: the state after
construction and reset with the default parameters, element by element. -/
def Obligations.ResetState : Prop :=
  let s := State.reset
  s.cpu = ⟨0#4, 0#4, 0#4, 0#4, 0#4, 0#4, 0#4, 0#4, 0#8, 0#13, 0#13, false, false, false, false, false, false, false⟩ ∧
    (∀ i, Memory.read s.bus.ram i = 0#4 ∧ Memory.read s.bus.vram i = 0#4) ∧
    (s.bus.io.ift = 0#4 ∧ s.bus.io.ifsw = 0#2 ∧ s.bus.io.ipt = false ∧ s.bus.io.isio = false ∧ s.bus.io.ik0 = false ∧
      s.bus.io.ik1 = false) ∧
    (s.bus.io.eit = 0#4 ∧ s.bus.io.eisw = 0#2 ∧ s.bus.io.eipt = false ∧ s.bus.io.eisio = false ∧ s.bus.io.eik0 = 0#4 ∧
      s.bus.io.eik1 = 0#4) ∧
    (s.bus.io.tm = 0#8 ∧ s.bus.io.swl = 0#4 ∧ s.bus.io.swh = 0#4 ∧ s.bus.io.pt = 0#8 ∧ s.bus.io.rd = 0#8 ∧
      s.bus.io.swrun = false ∧ s.bus.io.ptrun = false ∧ s.bus.io.ptc = 0#3) ∧
    (s.bus.io.sd = 0#8 ∧ s.bus.io.sioMask = 0#2 ∧ s.bus.io.dfk0 = 0#4 ∧ s.bus.io.r0 = 0#4 ∧ s.bus.io.r1 = 0#4 ∧
      s.bus.io.r2 = 0#4 ∧ s.bus.io.r3 = 0#4 ∧ s.bus.io.r4 = 0#4 ∧ s.bus.io.ioc = 0#4 ∧ s.bus.io.pup = 0#4) ∧
    (s.bus.io.ctrlOsc = 0#4 ∧ s.bus.io.lcdContrast = 0#4 ∧ s.bus.io.svd = 0#4 ∧ s.bus.io.bzfq = 0#3 ∧
      s.bus.io.shtpw = false ∧ s.bus.io.enrtm = false ∧ s.bus.io.enon = false ∧ s.bus.io.sioc = 0#4 ∧ s.bus.io.hzc = 0#4) ∧
    (s.bus.io.lcdCtrl = 0x8#4 ∧ s.bus.io.kl0 = 0xF#4 ∧ s.bus.io.kl1 = 0xF#4) ∧
    (∀ n, (s.bus.io.port n).pd = 0#4 ∧ (s.bus.io.port n).pl = 0xF#4 ∧ (s.bus.io.port n).ld = none ∧
      (s.bus.io.port n).pv = 0xF#4 ∧ (s.bus.io.port n).drive = none) ∧
    s.diag = ⟨0, 0#12, ⟨0, 0, 0, 0, 0, 0⟩, 0⟩ ∧
    s.bus.clk = ⟨0, 0, 0, 0, 0, 0, 0⟩ ∧ s.bus.bz = ⟨false, 0, 0, 0, false, ⟨false, 0, 0⟩⟩ ∧ s.bus.displayGeneration = 0

/-! ## The invariant -/

/-- The invariant holds right after construction with any arguments in their ranges whose tone is active high (with
`BZ_ACTIVE_LOW` the last event is not yet the current one, 70_reset_and_hazards.md R401, log entry 9), so in `State.reset`. -/
def Obligations.InvariantAfterReset : Prop :=
  (∀ p : Params, p.wf = true → p.bzActiveLow = false → Inv (State.construct p)) ∧ Inv State.reset

/-- The invariant is kept by every step: the low bytes of `NPC` and `PC` agree and no enable delay is pending (10_state.md R25,
60_exceptions.md R305), the memories are canonical, the ports are latched (20_memory.md R78), the buzzer output is the current
one (60_exceptions.md R351, R352), the counters and residuals are in their ranges (R321, R330, R335, R342, R355), and the
interrupt counts agree (R314). -/
def Obligations.StepKeepsInvariant : Prop :=
  ∀ s t : State, Inv s → step s = .next t → Inv t

end
end

