-- ==== Sys2Proof/Laws/AddressMap.lean ====
section
/-! SUPPORT. Which region a data address reaches (20_memory.md R63 to R67, R72). -/

namespace Sys2Proof.Machine

/-- Addresses 0x000 to 0x2FF are RAM (20_memory.md R63). -/
theorem regionOf_ram {a : Addr} (h : a.toNat ≤ 0x2FF) : regionOf a = .ram a.toNat := by
  simp [regionOf, h]

/-- VRAM bank 1 (20_memory.md R64). -/
theorem regionOf_vram1 {a : Addr} (h1 : 0xE00 ≤ a.toNat) (h2 : a.toNat ≤ 0xE4F) :
    regionOf a = .vram (a.toNat - 0xE00) := by
  simp only [regionOf]
  rw [if_neg (by omega), if_pos ⟨h1, h2⟩]

/-- VRAM bank 2 (20_memory.md R64). -/
theorem regionOf_vram2 {a : Addr} (h1 : 0xE80 ≤ a.toNat) (h2 : a.toNat ≤ 0xECF) :
    regionOf a = .vram (a.toNat - 0xE80 + 80) := by
  simp only [regionOf]
  rw [if_neg (by omega), if_neg (by omega), if_pos ⟨h1, h2⟩]

/-- A stack address is the RAM cell of that number (10_state.md R22). -/
@[simp] theorem regionOf_stackAddr (sp : Byte) : regionOf (stackAddr sp) = .ram sp.toNat := by
  have hsp : (stackAddr sp).toNat = sp.toNat := by
    simp only [stackAddr, BitVec.toNat_setWidth]
    have := sp.isLt
    omega
  rw [← hsp]
  exact regionOf_ram (by have := sp.isLt; omega)

/-- The operand `Mn` is the RAM cell `n` (30_encoding.md R132). -/
@[simp] theorem regionOf_nibAddr (n : Nib) : regionOf (nibAddr n) = .ram n.toNat := by
  have hn : (nibAddr n).toNat = n.toNat := by
    simp only [nibAddr, BitVec.toNat_setWidth]
    have := n.isLt
    omega
  rw [← hn]
  exact regionOf_ram (by have := n.isLt; omega)

/-- What `regionOf` answers says where the address lies. -/
theorem regionOf_cases (a : Addr) :
    (a.toNat ≤ 0x2FF ∧ regionOf a = .ram a.toNat) ∨
    (0xE00 ≤ a.toNat ∧ a.toNat ≤ 0xE4F ∧ regionOf a = .vram (a.toNat - 0xE00)) ∨
    (0xE80 ≤ a.toNat ∧ a.toNat ≤ 0xECF ∧ regionOf a = .vram (a.toNat - 0xE80 + 80)) ∨
    (0xF00 ≤ a.toNat ∧ a.toNat ≤ 0xF7F ∧ ∃ r, ioRegAt a = some r ∧ regionOf a = .io r) ∨
    regionOf a = .unmapped := by
  by_cases h1 : a.toNat ≤ 0x2FF
  · exact .inl ⟨h1, regionOf_ram h1⟩
  by_cases h2 : 0xE00 ≤ a.toNat ∧ a.toNat ≤ 0xE4F
  · exact .inr (.inl ⟨h2.1, h2.2, regionOf_vram1 h2.1 h2.2⟩)
  by_cases h3 : 0xE80 ≤ a.toNat ∧ a.toNat ≤ 0xECF
  · exact .inr (.inr (.inl ⟨h3.1, h3.2, regionOf_vram2 h3.1 h3.2⟩))
  refine .inr (.inr (.inr ?_))
  simp only [regionOf, if_neg h1, if_neg h2, if_neg h3]
  by_cases h4 : 0xF00 ≤ a.toNat ∧ a.toNat ≤ 0xF7F
  · simp only [if_pos h4]
    cases hr : ioRegAt a with
    | none => exact .inr rfl
    | some r => exact .inl ⟨h4.1, h4.2, r, rfl, rfl⟩
  · simp only [if_neg h4]
    exact .inr trivial

/-- Every RAM index an address reaches is below 768. -/
theorem regionOf_ram_lt {a : Addr} {i : Nat} (h : regionOf a = .ram i) : i < 768 ∧ i = a.toNat := by
  rcases regionOf_cases a with ⟨h1, h2⟩ | ⟨_, _, h2⟩ | ⟨_, _, h2⟩ | ⟨_, _, r, _, h2⟩ | h2 <;> rw [h] at h2 <;>
    simp at h2
  omega

/-- Where the address of a VRAM index lies (20_memory.md R64). -/
theorem regionOf_vram_inv {a : Addr} {i : Nat} (h : regionOf a = .vram i) :
    (0xE00 ≤ a.toNat ∧ a.toNat ≤ 0xE4F ∧ i = a.toNat - 0xE00) ∨ (0xE80 ≤ a.toNat ∧ a.toNat ≤ 0xECF ∧ i = a.toNat - 0xE80 + 80) := by
  rcases regionOf_cases a with ⟨_, e⟩ | ⟨x, y, e⟩ | ⟨x, y, e⟩ | ⟨_, _, r, _, e⟩ | e <;> rw [h] at e <;>
    simp only [Region.vram.injEq, reduceCtorEq] at e
  · exact .inl ⟨x, y, e⟩
  · exact .inr ⟨x, y, e⟩

/-- Every VRAM index an address reaches is below 160. -/
theorem regionOf_vram_lt {a : Addr} {i : Nat} (h : regionOf a = .vram i) : i < 160 := by
  rcases regionOf_cases a with ⟨h1, h2⟩ | ⟨_, _, h2⟩ | ⟨_, _, h2⟩ | ⟨_, _, r, _, h2⟩ | h2 <;> rw [h] at h2 <;>
    simp at h2 <;> omega

end Sys2Proof.Machine
end

