-- ==== Sys2Proof/Laws/Memory.lean ====
section
/-! SUPPORT. The sparse nibble memories: read after write, and the canonical form that every write keeps. -/

namespace Sys2Proof.Machine

@[simp] theorem Memory.read_nil (i : Nat) : Memory.read [] i = 0#4 := rfl

@[simp] theorem Memory.wf_nil (size : Nat) : Memory.wf size [] = true := rfl

/-- What the canonical form from a bound says of the first cell and of the rest. -/
theorem Memory.wfFrom_cons {size lo j : Nat} {w : Nib} {m : Memory} :
    Memory.wfFrom size lo ((j, w) :: m) = true ↔
      lo ≤ j ∧ j < size ∧ w ≠ 0#4 ∧ Memory.wfFrom size (j + 1) m = true := by
  simp [Memory.wfFrom, and_assoc]

/-- A lower bound may be lowered. -/
theorem Memory.wfFrom_mono {size lo lo' : Nat} {m : Memory} (hlo : lo' ≤ lo)
    (h : Memory.wfFrom size lo m = true) : Memory.wfFrom size lo' m = true := by
  cases m with
  | nil => rfl
  | cons c m =>
    obtain ⟨j, w⟩ := c
    rw [Memory.wfFrom_cons] at h ⊢
    exact ⟨by omega, h.2⟩

/-- Below the bound of a canonical memory every cell reads 0. -/
theorem Memory.read_below {size lo i : Nat} {m : Memory} (h : Memory.wfFrom size lo m = true) (hi : i < lo) :
    Memory.read m i = 0#4 := by
  induction m generalizing lo with
  | nil => rfl
  | cons c m ih =>
    obtain ⟨j, w⟩ := c
    rw [Memory.wfFrom_cons] at h
    simp only [Memory.read]
    rw [if_neg (by omega)]
    exact ih h.2.2.2 (by omega)

/-- A write keeps the canonical form from a bound it respects. -/
theorem Memory.wfFrom_write {size lo i : Nat} {v : Nib} {m : Memory} (hlo : lo ≤ i) (hi : i < size)
    (h : Memory.wfFrom size lo m = true) : Memory.wfFrom size lo (Memory.write m i v) = true := by
  induction m generalizing lo with
  | nil =>
    by_cases hv : v = 0#4
    · simp [Memory.write, hv, Memory.wfFrom]
    · simp [Memory.write, hv, Memory.wfFrom, hlo, hi]
  | cons c m ih =>
    obtain ⟨j, w⟩ := c
    have hc := Memory.wfFrom_cons.mp h
    simp only [Memory.write]
    split
    · split
      · exact h
      · exact Memory.wfFrom_cons.mpr ⟨hlo, hi, ‹_›, Memory.wfFrom_cons.mpr ⟨by omega, hc.2⟩⟩
    · split
      · split
        · exact Memory.wfFrom_mono (by omega) hc.2.2.2
        · exact Memory.wfFrom_cons.mpr ⟨hlo, hi, ‹_›, by simpa [‹i = j›] using hc.2.2.2⟩
      · exact Memory.wfFrom_cons.mpr ⟨hc.1, hc.2.1, hc.2.2.1, ih (by omega) hc.2.2.2⟩

/-- A write inside the memory keeps the canonical form. -/
theorem Memory.wf_write {size i : Nat} {v : Nib} {m : Memory} (hi : i < size) (h : Memory.wf size m = true) :
    Memory.wf size (Memory.write m i v) = true :=
  Memory.wfFrom_write (Nat.zero_le i) hi h

/-- Reading another cell than the one written gives what it held. -/
theorem Memory.read_write_other {i j : Nat} (v : Nib) (m : Memory) (hij : j ≠ i) :
    Memory.read (Memory.write m i v) j = Memory.read m j := by
  induction m with
  | nil => by_cases hv : v = 0#4 <;> simp [Memory.write, Memory.read, hv, hij]
  | cons c m ih =>
    obtain ⟨k, w⟩ := c
    simp only [Memory.write]
    split
    · split <;> simp [Memory.read, hij]
    · split
      · rename_i hik
        split <;> simp [Memory.read, hij, ← hik]
      · simp [Memory.read, ih]

/-- Reading the cell written gives the value, in a memory in canonical form from a bound. -/
theorem Memory.read_write_same_from {size lo i : Nat} (v : Nib) {m : Memory} (h : Memory.wfFrom size lo m = true) :
    Memory.read (Memory.write m i v) i = v := by
  induction m generalizing lo with
  | nil => by_cases hv : v = 0#4 <;> simp [Memory.write, Memory.read, hv]
  | cons c m ih =>
    obtain ⟨j, w⟩ := c
    have hc := Memory.wfFrom_cons.mp h
    simp only [Memory.write]
    split
    · split
      · rename_i hlt hv
        simp only [Memory.read]
        rw [if_neg (by omega), hv]
        exact Memory.read_below hc.2.2.2 (by omega)
      · simp [Memory.read]
    · split
      · rename_i hij
        split
        · rename_i hv
          rw [hv]
          exact Memory.read_below hc.2.2.2 (by omega)
        · simp [Memory.read]
      · rename_i hij
        simp only [Memory.read]
        rw [if_neg hij]
        exact ih hc.2.2.2

/-- Reading the cell written gives the value, in a canonical memory. -/
theorem Memory.read_write_same {size i : Nat} (v : Nib) {m : Memory} (h : Memory.wf size m = true) :
    Memory.read (Memory.write m i v) i = v :=
  Memory.read_write_same_from v h

end Sys2Proof.Machine
end

