-- ==== Sys2Proof/Laws/State.lean ====
section
/-! SUPPORT. One lemma per field per update of State and Bus, each @[simp], so that no later proof unfolds a record update. -/

namespace Sys2Proof.Machine

/-! ### memWrite -/

@[simp] theorem memWrite_params (a : Addr) (v : Nib) (s : State) : (memWrite a v s).params = s.params := rfl
@[simp] theorem memWrite_cpu (a : Addr) (v : Nib) (s : State) : (memWrite a v s).cpu = s.cpu := rfl
@[simp] theorem memWrite_bus (a : Addr) (v : Nib) (s : State) : (memWrite a v s).bus = busWrite s.params a v s.bus := rfl
@[simp] theorem memWrite_diag (a : Addr) (v : Nib) (s : State) : (memWrite a v s).diag = s.diag := rfl
@[simp] theorem memWrite_cost (a : Addr) (v : Nib) (s : State) : (memWrite a v s).cost = s.cost := rfl

@[simp] theorem memRead_value (a : Addr) (s : State) : (memRead a s).1 = peek s.params a s.bus := rfl
/-! ### memRead -/

@[simp] theorem memRead_params (a : Addr) (s : State) : (memRead a s).2.params = s.params := rfl
@[simp] theorem memRead_cpu (a : Addr) (s : State) : (memRead a s).2.cpu = s.cpu := rfl
@[simp] theorem memRead_bus (a : Addr) (s : State) : (memRead a s).2.bus = ack a s.bus := rfl
@[simp] theorem memRead_diag (a : Addr) (s : State) : (memRead a s).2.diag = s.diag := rfl
@[simp] theorem memRead_cost (a : Addr) (s : State) : (memRead a s).2.cost = s.cost := rfl

/-! ### incX -/

@[simp] theorem incX_params (s : State) : (incX s).params = s.params := rfl
@[simp] theorem incX_cpu (s : State) : (incX s).cpu = s.cpu.setX (byteOf s.cpu.xh s.cpu.xl + 1#8) := rfl
@[simp] theorem incX_bus (s : State) : (incX s).bus = s.bus := rfl
@[simp] theorem incX_diag (s : State) : (incX s).diag = s.diag := rfl
@[simp] theorem incX_cost (s : State) : (incX s).cost = s.cost := rfl

/-! ### incY -/

@[simp] theorem incY_params (s : State) : (incY s).params = s.params := rfl
@[simp] theorem incY_cpu (s : State) : (incY s).cpu = s.cpu.setY (byteOf s.cpu.yh s.cpu.yl + 1#8) := rfl
@[simp] theorem incY_bus (s : State) : (incY s).bus = s.bus := rfl
@[simp] theorem incY_diag (s : State) : (incY s).diag = s.diag := rfl
@[simp] theorem incY_cost (s : State) : (incY s).cost = s.cost := rfl

/-! ### jump -/

@[simp] theorem jump_params (t : PcWord) (n : Nat) (s : State) : (jump t n s).params = s.params := rfl
@[simp] theorem jump_cpu (t : PcWord) (n : Nat) (s : State) : (jump t n s).cpu = { s.cpu with pc := t } := rfl
@[simp] theorem jump_bus (t : PcWord) (n : Nat) (s : State) : (jump t n s).bus = s.bus := rfl
@[simp] theorem jump_diag (t : PcWord) (n : Nat) (s : State) : (jump t n s).diag = s.diag := rfl
@[simp] theorem jump_cost (t : PcWord) (n : Nat) (s : State) : (jump t n s).cost = n := rfl

/-! ### advance -/

@[simp] theorem advance_params (n : Nat) (s : State) : (advance n s).params = s.params := rfl
@[simp] theorem advance_cpu (n : Nat) (s : State) : (advance n s).cpu = { s.cpu with pc := succ s.cpu.pc } := rfl
@[simp] theorem advance_bus (n : Nat) (s : State) : (advance n s).bus = s.bus := rfl
@[simp] theorem advance_diag (n : Nat) (s : State) : (advance n s).diag = s.diag := rfl
@[simp] theorem advance_cost (n : Nat) (s : State) : (advance n s).cost = n := rfl

/-! ### setZ -/

@[simp] theorem setZ_params (v : Nib) (s : State) : (setZ v s).params = s.params := rfl
@[simp] theorem setZ_cpu (v : Nib) (s : State) : (setZ v s).cpu = { s.cpu with fZ := decide (v = 0#4) } := rfl
@[simp] theorem setZ_bus (v : Nib) (s : State) : (setZ v s).bus = s.bus := rfl
@[simp] theorem setZ_diag (v : Nib) (s : State) : (setZ v s).diag = s.diag := rfl
@[simp] theorem setZ_cost (v : Nib) (s : State) : (setZ v s).cost = s.cost := rfl

/-! ### setCZ -/

@[simp] theorem setCZ_params (x : Nib × Bool) (s : State) : (setCZ x s).params = s.params := rfl
@[simp] theorem setCZ_cpu (x : Nib × Bool) (s : State) : (setCZ x s).cpu = { s.cpu with fC := x.2, fZ := decide (x.1 = 0#4) } := rfl
@[simp] theorem setCZ_bus (x : Nib × Bool) (s : State) : (setCZ x s).bus = s.bus := rfl
@[simp] theorem setCZ_diag (x : Nib × Bool) (s : State) : (setCZ x s).diag = s.diag := rfl
@[simp] theorem setCZ_cost (x : Nib × Bool) (s : State) : (setCZ x s).cost = s.cost := rfl

/-! ### setRotFlags -/

@[simp] theorem setRotFlags_params (x : Nib × Bool) (s : State) : (setRotFlags x s).params = s.params := rfl
@[simp] theorem setRotFlags_cpu (x : Nib × Bool) (s : State) : (setRotFlags x s).cpu = 
    { s.cpu with fC := x.2, fZ := if s.params.rotWritesZ then decide (x.1 = 0#4) else s.cpu.fZ } := rfl
@[simp] theorem setRotFlags_bus (x : Nib × Bool) (s : State) : (setRotFlags x s).bus = s.bus := rfl
@[simp] theorem setRotFlags_diag (x : Nib × Bool) (s : State) : (setRotFlags x s).diag = s.diag := rfl
@[simp] theorem setRotFlags_cost (x : Nib × Bool) (s : State) : (setRotFlags x s).cost = s.cost := rfl

/-! ### setIx -/

@[simp] theorem setIx_params (k : IxNib) (v : Nib) (s : State) : (setIx k v s).params = s.params := rfl
@[simp] theorem setIx_cpu (k : IxNib) (v : Nib) (s : State) : (setIx k v s).cpu = s.cpu.setIx k v := rfl
@[simp] theorem setIx_bus (k : IxNib) (v : Nib) (s : State) : (setIx k v s).bus = s.bus := rfl
@[simp] theorem setIx_diag (k : IxNib) (v : Nib) (s : State) : (setIx k v s).diag = s.diag := rfl
@[simp] theorem setIx_cost (k : IxNib) (v : Nib) (s : State) : (setIx k v s).cost = s.cost := rfl

/-! ### push -/

@[simp] theorem push_params (v : Nib) (s : State) : (push v s).params = s.params := rfl
@[simp] theorem push_cpu (v : Nib) (s : State) : (push v s).cpu = { s.cpu with sp := s.cpu.sp - 1#8 } := rfl
@[simp] theorem push_bus (v : Nib) (s : State) : (push v s).bus = 
    busWrite s.params (stackAddr (s.cpu.sp - 1#8)) v s.bus := rfl
@[simp] theorem push_diag (v : Nib) (s : State) : (push v s).diag = s.diag := rfl
@[simp] theorem push_cost (v : Nib) (s : State) : (push v s).cost = s.cost := rfl

@[simp] theorem pop_value (s : State) : (pop s).1 = peek s.params (stackAddr s.cpu.sp) s.bus := rfl
/-! ### pop -/

@[simp] theorem pop_params (s : State) : (pop s).2.params = s.params := rfl
@[simp] theorem pop_cpu (s : State) : (pop s).2.cpu = { s.cpu with sp := s.cpu.sp + 1#8 } := rfl
@[simp] theorem pop_bus (s : State) : (pop s).2.bus = ack (stackAddr s.cpu.sp) s.bus := rfl
@[simp] theorem pop_diag (s : State) : (pop s).2.diag = s.diag := rfl
@[simp] theorem pop_cost (s : State) : (pop s).2.cost = s.cost := rfl

/-! ### pushReturn -/

@[simp] theorem pushReturn_params (r : PcWord) (s : State) : (pushReturn r s).params = s.params := rfl
@[simp] theorem pushReturn_cpu (r : PcWord) (s : State) : (pushReturn r s).cpu = { s.cpu with sp := s.cpu.sp - 3#8 } := rfl
@[simp] theorem pushReturn_diag (r : PcWord) (s : State) : (pushReturn r s).diag = s.diag := rfl
@[simp] theorem pushReturn_cost (r : PcWord) (s : State) : (pushReturn r s).cost = s.cost := rfl

/-! ### enterInterrupt -/

@[simp] theorem enterInterrupt_params (src : IntSource) (s : State) : (enterInterrupt src s).params = s.params := rfl
@[simp] theorem enterInterrupt_cpu (src : IntSource) (s : State) : (enterInterrupt src s).cpu = 
    { s.cpu with sp := s.cpu.sp - 3#8, fI := false, halt := false, pc := handlerAddr s.cpu.pc src,
                 npc := handlerAddr s.cpu.pc src } := rfl
@[simp] theorem enterInterrupt_bus (src : IntSource) (s : State) : (enterInterrupt src s).bus = (pushReturn s.cpu.pc s).bus := rfl
@[simp] theorem enterInterrupt_cost (src : IntSource) (s : State) : (enterInterrupt src s).cost = s.cost + s.params.intCycles := rfl

/-! ### epilogue -/

@[simp] theorem epilogue_params (i0 pset : Bool) (s : State) : (epilogue i0 pset s).params = s.params := rfl
@[simp] theorem epilogue_cpu (i0 pset : Bool) (s : State) : (epilogue i0 pset s).cpu = 
    { s.cpu with npc := if pset then s.cpu.npc else s.cpu.pc,
                 intDelay := if !i0 && s.cpu.fI then true else s.cpu.intDelay } := rfl
@[simp] theorem epilogue_bus (i0 pset : Bool) (s : State) : (epilogue i0 pset s).bus = s.bus := rfl
@[simp] theorem epilogue_diag (i0 pset : Bool) (s : State) : (epilogue i0 pset s).diag = s.diag := rfl
@[simp] theorem epilogue_cost (i0 pset : Bool) (s : State) : (epilogue i0 pset s).cost = s.cost := rfl

/-! ### advanceClock -/

@[simp] theorem advanceClock_params (s : State) : (advanceClock s).params = s.params := rfl
@[simp] theorem advanceClock_cpu (s : State) : (advanceClock s).cpu = s.cpu := rfl
@[simp] theorem advanceClock_bus (s : State) : (advanceClock s).bus = clockAdvance s.params s.cost s.bus := rfl
@[simp] theorem advanceClock_diag (s : State) : (advanceClock s).diag = s.diag := rfl
@[simp] theorem advanceClock_cost (s : State) : (advanceClock s).cost = s.cost := rfl

/-! ### withBus -/

@[simp] theorem withBus_params (s : State) (b : Bus) : (withBus s b).params = s.params := rfl
@[simp] theorem withBus_cpu (s : State) (b : Bus) : (withBus s b).cpu = s.cpu := rfl
@[simp] theorem withBus_bus (s : State) (b : Bus) : (withBus s b).bus = b := rfl
@[simp] theorem withBus_diag (s : State) (b : Bus) : (withBus s b).diag = s.diag := rfl
@[simp] theorem withBus_cost (s : State) (b : Bus) : (withBus s b).cost = s.cost := rfl

/-! ### opnd, setOpnd, moveOpnd -/

@[simp] theorem opnd_params (k : Sel) (s : State) : (opnd k s).2.params = s.params := by cases k <;> rfl
@[simp] theorem opnd_cpu (k : Sel) (s : State) : (opnd k s).2.cpu = s.cpu := by cases k <;> rfl
@[simp] theorem opnd_diag (k : Sel) (s : State) : (opnd k s).2.diag = s.diag := by cases k <;> rfl
@[simp] theorem opnd_cost (k : Sel) (s : State) : (opnd k s).2.cost = s.cost := by cases k <;> rfl
@[simp] theorem setOpnd_params (k : Sel) (v : Nib) (s : State) : (setOpnd k v s).params = s.params := by cases k <;> rfl
@[simp] theorem setOpnd_diag (k : Sel) (v : Nib) (s : State) : (setOpnd k v s).diag = s.diag := by cases k <;> rfl
@[simp] theorem setOpnd_cost (k : Sel) (v : Nib) (s : State) : (setOpnd k v s).cost = s.cost := by cases k <;> rfl
@[simp] theorem setOpnd_cpu (k : Sel) (v : Nib) (s : State) :
    (setOpnd k v s).cpu =
      { s.cpu with a := if k = .a then v else s.cpu.a, b := if k = .b then v else s.cpu.b } := by
  cases k <;> rfl
@[simp] theorem opnds_params (r q : Sel) (s : State) : (opnds r q s).2.2.params = s.params := by simp [opnds]
@[simp] theorem opnds_cpu (r q : Sel) (s : State) : (opnds r q s).2.2.cpu = s.cpu := by simp [opnds]
@[simp] theorem opnds_diag (r q : Sel) (s : State) : (opnds r q s).2.2.diag = s.diag := by simp [opnds]
@[simp] theorem opnds_cost (r q : Sel) (s : State) : (opnds r q s).2.2.cost = s.cost := by simp [opnds]

/-! ### The device operations: what each leaves alone -/

@[simp] theorem envRestart_ram (p : Params) (b : Bus) : (envRestart p b).ram = b.ram := by rfl
@[simp] theorem envRestart_vram (p : Params) (b : Bus) : (envRestart p b).vram = b.vram := by rfl
@[simp] theorem envRestart_io (p : Params) (b : Bus) : (envRestart p b).io = b.io := by rfl
@[simp] theorem envRestart_clk (p : Params) (b : Bus) : (envRestart p b).clk = b.clk := by rfl
@[simp] theorem envRestart_displayGeneration (p : Params) (b : Bus) : (envRestart p b).displayGeneration = b.displayGeneration := by rfl
@[simp] theorem envRestart_events (p : Params) (b : Bus) : (envRestart p b).events = b.events := by rfl

@[simp] theorem emitIfChanged_ram (p : Params) (b : Bus) : (emitIfChanged p b).ram = b.ram := by simp only [emitIfChanged]; split <;> rfl
@[simp] theorem emitIfChanged_vram (p : Params) (b : Bus) : (emitIfChanged p b).vram = b.vram := by simp only [emitIfChanged]; split <;> rfl
@[simp] theorem emitIfChanged_io (p : Params) (b : Bus) : (emitIfChanged p b).io = b.io := by simp only [emitIfChanged]; split <;> rfl
@[simp] theorem emitIfChanged_clk (p : Params) (b : Bus) : (emitIfChanged p b).clk = b.clk := by simp only [emitIfChanged]; split <;> rfl
@[simp] theorem emitIfChanged_displayGeneration (p : Params) (b : Bus) : (emitIfChanged p b).displayGeneration = b.displayGeneration := by simp only [emitIfChanged]; split <;> rfl

@[simp] theorem buzzerUpdate_ram (p : Params) (b : Bus) : (buzzerUpdate p b).ram = b.ram := by simp only [buzzerUpdate]; split <;> simp
@[simp] theorem buzzerUpdate_vram (p : Params) (b : Bus) : (buzzerUpdate p b).vram = b.vram := by simp only [buzzerUpdate]; split <;> simp
@[simp] theorem buzzerUpdate_io (p : Params) (b : Bus) : (buzzerUpdate p b).io = b.io := by simp only [buzzerUpdate]; split <;> simp
@[simp] theorem buzzerUpdate_clk (p : Params) (b : Bus) : (buzzerUpdate p b).clk = b.clk := by simp only [buzzerUpdate]; split <;> simp
@[simp] theorem buzzerUpdate_displayGeneration (p : Params) (b : Bus) : (buzzerUpdate p b).displayGeneration = b.displayGeneration := by simp only [buzzerUpdate]; split <;> simp

@[simp] theorem shotStart_ram (p : Params) (b : Bus) : (shotStart p b).ram = b.ram := by simp only [shotStart]; split <;> rfl
@[simp] theorem shotStart_vram (p : Params) (b : Bus) : (shotStart p b).vram = b.vram := by simp only [shotStart]; split <;> rfl
@[simp] theorem shotStart_io (p : Params) (b : Bus) : (shotStart p b).io = b.io := by simp only [shotStart]; split <;> rfl
@[simp] theorem shotStart_clk (p : Params) (b : Bus) : (shotStart p b).clk = b.clk := by simp only [shotStart]; split <;> rfl
@[simp] theorem shotStart_displayGeneration (p : Params) (b : Bus) : (shotStart p b).displayGeneration = b.displayGeneration := by simp only [shotStart]; split <;> rfl
@[simp] theorem shotStart_events (p : Params) (b : Bus) : (shotStart p b).events = b.events := by simp only [shotStart]; split <;> rfl

@[simp] theorem shotTick_ram (b : Bus) : (shotTick b).ram = b.ram := by simp only [shotTick]; split <;> rfl
@[simp] theorem shotTick_vram (b : Bus) : (shotTick b).vram = b.vram := by simp only [shotTick]; split <;> rfl
@[simp] theorem shotTick_io (b : Bus) : (shotTick b).io = b.io := by simp only [shotTick]; split <;> rfl
@[simp] theorem shotTick_clk (b : Bus) : (shotTick b).clk = b.clk := by simp only [shotTick]; split <;> rfl
@[simp] theorem shotTick_displayGeneration (b : Bus) : (shotTick b).displayGeneration = b.displayGeneration := by simp only [shotTick]; split <;> rfl
@[simp] theorem shotTick_events (b : Bus) : (shotTick b).events = b.events := by simp only [shotTick]; split <;> rfl

@[simp] theorem envTick_ram (p : Params) (b : Bus) : (envTick p b).ram = b.ram := by simp only [envTick]; split <;> (try split) <;> rfl
@[simp] theorem envTick_vram (p : Params) (b : Bus) : (envTick p b).vram = b.vram := by simp only [envTick]; split <;> (try split) <;> rfl
@[simp] theorem envTick_io (p : Params) (b : Bus) : (envTick p b).io = b.io := by simp only [envTick]; split <;> (try split) <;> rfl
@[simp] theorem envTick_clk (p : Params) (b : Bus) : (envTick p b).clk = b.clk := by simp only [envTick]; split <;> (try split) <;> rfl
@[simp] theorem envTick_displayGeneration (p : Params) (b : Bus) : (envTick p b).displayGeneration = b.displayGeneration := by simp only [envTick]; split <;> (try split) <;> rfl
@[simp] theorem envTick_events (p : Params) (b : Bus) : (envTick p b).events = b.events := by simp only [envTick]; split <;> (try split) <;> rfl

@[simp] theorem buzzerTick_ram (p : Params) (b : Bus) : (buzzerTick p b).ram = b.ram := by simp [buzzerTick]
@[simp] theorem buzzerTick_vram (p : Params) (b : Bus) : (buzzerTick p b).vram = b.vram := by simp [buzzerTick]
@[simp] theorem buzzerTick_io (p : Params) (b : Bus) : (buzzerTick p b).io = b.io := by simp [buzzerTick]
@[simp] theorem buzzerTick_clk (p : Params) (b : Bus) : (buzzerTick p b).clk = b.clk := by simp [buzzerTick]
@[simp] theorem buzzerTick_displayGeneration (p : Params) (b : Bus) : (buzzerTick p b).displayGeneration = b.displayGeneration := by simp [buzzerTick]

@[simp] theorem serialEmit_ram (b : Bus) : (serialEmit b).ram = b.ram := by simp only [serialEmit]; split <;> rfl
@[simp] theorem serialEmit_vram (b : Bus) : (serialEmit b).vram = b.vram := by simp only [serialEmit]; split <;> rfl
@[simp] theorem serialEmit_clk (b : Bus) : (serialEmit b).clk = b.clk := by simp only [serialEmit]; split <;> rfl
@[simp] theorem serialEmit_bz (b : Bus) : (serialEmit b).bz = b.bz := by simp only [serialEmit]; split <;> rfl
@[simp] theorem serialEmit_displayGeneration (b : Bus) : (serialEmit b).displayGeneration = b.displayGeneration := by simp only [serialEmit]; split <;> rfl

@[simp] theorem lcdWrite_ram (v : Nib) (b : Bus) : (lcdWrite v b).ram = b.ram := by rfl
@[simp] theorem lcdWrite_vram (v : Nib) (b : Bus) : (lcdWrite v b).vram = b.vram := by rfl
@[simp] theorem lcdWrite_clk (v : Nib) (b : Bus) : (lcdWrite v b).clk = b.clk := by rfl
@[simp] theorem lcdWrite_bz (v : Nib) (b : Bus) : (lcdWrite v b).bz = b.bz := by rfl
@[simp] theorem lcdWrite_events (v : Nib) (b : Bus) : (lcdWrite v b).events = b.events := by rfl

@[simp] theorem bzc1Write_ram (p : Params) (v : Nib) (b : Bus) : (bzc1Write p v b).ram = b.ram := by
  simp only [bzc1Write, buzzerUpdate_ram]; split <;> rfl
@[simp] theorem bzc1Write_vram (p : Params) (v : Nib) (b : Bus) : (bzc1Write p v b).vram = b.vram := by
  simp only [bzc1Write, buzzerUpdate_vram]; split <;> rfl
@[simp] theorem bzc1Write_clk (p : Params) (v : Nib) (b : Bus) : (bzc1Write p v b).clk = b.clk := by
  simp only [bzc1Write, buzzerUpdate_clk]; split <;> rfl
@[simp] theorem bzc1Write_displayGeneration (p : Params) (v : Nib) (b : Bus) : (bzc1Write p v b).displayGeneration = b.displayGeneration := by
  simp only [bzc1Write, buzzerUpdate_displayGeneration]; split <;> rfl

@[simp] theorem bzc2Write_ram (p : Params) (v : Nib) (b : Bus) : (bzc2Write p v b).ram = b.ram := by
  simp only [bzc2Write, buzzerUpdate_ram]; split <;> simp
@[simp] theorem bzc2Write_vram (p : Params) (v : Nib) (b : Bus) : (bzc2Write p v b).vram = b.vram := by
  simp only [bzc2Write, buzzerUpdate_vram]; split <;> simp
@[simp] theorem bzc2Write_clk (p : Params) (v : Nib) (b : Bus) : (bzc2Write p v b).clk = b.clk := by
  simp only [bzc2Write, buzzerUpdate_clk]; split <;> simp
@[simp] theorem bzc2Write_displayGeneration (p : Params) (v : Nib) (b : Bus) : (bzc2Write p v b).displayGeneration = b.displayGeneration := by
  simp only [bzc2Write, buzzerUpdate_displayGeneration]; split <;> simp

@[simp] theorem ioAck_ram (r : IoReg) (b : Bus) : (ioAck r b).ram = b.ram := by cases r <;> rfl
@[simp] theorem ioAck_vram (r : IoReg) (b : Bus) : (ioAck r b).vram = b.vram := by cases r <;> rfl
@[simp] theorem ioAck_clk (r : IoReg) (b : Bus) : (ioAck r b).clk = b.clk := by cases r <;> rfl
@[simp] theorem ioAck_bz (r : IoReg) (b : Bus) : (ioAck r b).bz = b.bz := by cases r <;> rfl
@[simp] theorem ioAck_displayGeneration (r : IoReg) (b : Bus) : (ioAck r b).displayGeneration = b.displayGeneration := by cases r <;> rfl
@[simp] theorem ioAck_events (r : IoReg) (b : Bus) : (ioAck r b).events = b.events := by cases r <;> rfl

@[simp] theorem ioWrite_ram (p : Params) (r : IoReg) (v : Nib) (b : Bus) : (ioWrite p r v b).ram = b.ram := by cases r <;> simp [ioWrite, ctrlTmWrite, ctrlSwWrite, ctrlPtWrite]
@[simp] theorem ioWrite_vram (p : Params) (r : IoReg) (v : Nib) (b : Bus) : (ioWrite p r v b).vram = b.vram := by cases r <;> simp [ioWrite, ctrlTmWrite, ctrlSwWrite, ctrlPtWrite]
@[simp] theorem ioWrite_clk (p : Params) (r : IoReg) (v : Nib) (b : Bus) : (ioWrite p r v b).clk = b.clk := by cases r <;> simp [ioWrite, ctrlTmWrite, ctrlSwWrite, ctrlPtWrite]

@[simp] theorem ack_ram (a : Addr) (b : Bus) : (ack a b).ram = b.ram := by simp only [ack]; split <;> simp
@[simp] theorem ack_vram (a : Addr) (b : Bus) : (ack a b).vram = b.vram := by simp only [ack]; split <;> simp
@[simp] theorem ack_clk (a : Addr) (b : Bus) : (ack a b).clk = b.clk := by simp only [ack]; split <;> simp
@[simp] theorem ack_bz (a : Addr) (b : Bus) : (ack a b).bz = b.bz := by simp only [ack]; split <;> simp
@[simp] theorem ack_displayGeneration (a : Addr) (b : Bus) : (ack a b).displayGeneration = b.displayGeneration := by simp only [ack]; split <;> simp
@[simp] theorem ack_events (a : Addr) (b : Bus) : (ack a b).events = b.events := by simp only [ack]; split <;> simp

@[simp] theorem busWrite_clk (p : Params) (a : Addr) (v : Nib) (b : Bus) : (busWrite p a v b).clk = b.clk := by simp only [busWrite]; split <;> simp [vramWrite]

@[simp] theorem mainTimerTick_ram (p : Params) (b : Bus) : (mainTimerTick p b).ram = b.ram := by simp only [mainTimerTick]; split <;> rfl
@[simp] theorem mainTimerTick_vram (p : Params) (b : Bus) : (mainTimerTick p b).vram = b.vram := by simp only [mainTimerTick]; split <;> rfl
@[simp] theorem mainTimerTick_bz (p : Params) (b : Bus) : (mainTimerTick p b).bz = b.bz := by simp only [mainTimerTick]; split <;> rfl
@[simp] theorem mainTimerTick_displayGeneration (p : Params) (b : Bus) : (mainTimerTick p b).displayGeneration = b.displayGeneration := by simp only [mainTimerTick]; split <;> rfl
@[simp] theorem mainTimerTick_events (p : Params) (b : Bus) : (mainTimerTick p b).events = b.events := by simp only [mainTimerTick]; split <;> rfl

@[simp] theorem stopwatchTick_ram (p : Params) (b : Bus) : (stopwatchTick p b).ram = b.ram := by simp only [stopwatchTick]; split <;> (try split) <;> rfl
@[simp] theorem stopwatchTick_vram (p : Params) (b : Bus) : (stopwatchTick p b).vram = b.vram := by simp only [stopwatchTick]; split <;> (try split) <;> rfl
@[simp] theorem stopwatchTick_bz (p : Params) (b : Bus) : (stopwatchTick p b).bz = b.bz := by simp only [stopwatchTick]; split <;> (try split) <;> rfl
@[simp] theorem stopwatchTick_displayGeneration (p : Params) (b : Bus) : (stopwatchTick p b).displayGeneration = b.displayGeneration := by simp only [stopwatchTick]; split <;> (try split) <;> rfl
@[simp] theorem stopwatchTick_events (p : Params) (b : Bus) : (stopwatchTick p b).events = b.events := by simp only [stopwatchTick]; split <;> (try split) <;> rfl

@[simp] theorem progTimerTick_ram (p : Params) (b : Bus) : (progTimerTick p b).ram = b.ram := by simp only [progTimerTick]; split <;> (try split) <;> rfl
@[simp] theorem progTimerTick_vram (p : Params) (b : Bus) : (progTimerTick p b).vram = b.vram := by simp only [progTimerTick]; split <;> (try split) <;> rfl
@[simp] theorem progTimerTick_bz (p : Params) (b : Bus) : (progTimerTick p b).bz = b.bz := by simp only [progTimerTick]; split <;> (try split) <;> rfl
@[simp] theorem progTimerTick_displayGeneration (p : Params) (b : Bus) : (progTimerTick p b).displayGeneration = b.displayGeneration := by simp only [progTimerTick]; split <;> (try split) <;> rfl
@[simp] theorem progTimerTick_events (p : Params) (b : Bus) : (progTimerTick p b).events = b.events := by simp only [progTimerTick]; split <;> (try split) <;> rfl

@[simp] theorem oscTick_ram (p : Params) (b : Bus) : (oscTick p b).ram = b.ram := by simp [oscTick]
@[simp] theorem oscTick_vram (p : Params) (b : Bus) : (oscTick p b).vram = b.vram := by simp [oscTick]
@[simp] theorem oscTick_displayGeneration (p : Params) (b : Bus) : (oscTick p b).displayGeneration = b.displayGeneration := by simp [oscTick]

/-- Ticks of the oscillator leave RAM alone. -/
@[simp] theorem oscTicks_ram (p : Params) (n : Nat) (b : Bus) : (oscTicks p n b).ram = b.ram := by
  induction n generalizing b with
  | zero => rfl
  | succ n ih => simp [oscTicks, ih]

/-- Ticks of the oscillator leave VRAM alone. -/
@[simp] theorem oscTicks_vram (p : Params) (n : Nat) (b : Bus) : (oscTicks p n b).vram = b.vram := by
  induction n generalizing b with
  | zero => rfl
  | succ n ih => simp [oscTicks, ih]

/-- Ticks of the oscillator leave the display generation alone. -/
@[simp] theorem oscTicks_displayGeneration (p : Params) (n : Nat) (b : Bus) :
    (oscTicks p n b).displayGeneration = b.displayGeneration := by
  induction n generalizing b with
  | zero => rfl
  | succ n ih => simp [oscTicks, ih]

end Sys2Proof.Machine
end

