-- ==== Sys2Proof/Laws/Numbers.lean ====
section
/-! SUPPORT. The model's operations on addresses, counters, flags and digits as the arithmetic of the rules. -/

namespace Sys2Proof.Machine

open Sys2Proof.Safety

/-- 10_state.md R24. -/
theorem succ_eq_nextPc (p : PcWord) : succ p = nextPc p := by
  apply BitVec.eq_of_toNat_eq
  simp only [succ, nextPc, pcBank, BitVec.toNat_append, BitVec.extractLsb'_toNat, BitVec.toNat_add, BitVec.toNat_ofNat,
    Nat.shiftRight_eq_div_pow]
  have h := p.isLt
  rw [← Nat.shiftLeft_add_eq_or_of_lt (by omega), Nat.shiftLeft_eq]
  omega

/-- 10_state.md R23: an address of a bank bit and twelve bits below it. -/
theorem bankAddr_toNat (k : BitVec 1) (v : BitVec 12) : (bankAddr k v).toNat = 4096 * k.toNat + v.toNat := by
  simp only [bankAddr, BitVec.toNat_append]
  rw [← Nat.shiftLeft_add_eq_or_of_lt v.isLt, Nat.shiftLeft_eq]
  omega

/-- The byte of two nibbles as a number. -/
theorem byteOf_toNat (hi lo : Nib) : (byteOf hi lo).toNat = 16 * hi.toNat + lo.toNat := by
  simp only [byteOf, BitVec.toNat_append]
  rw [← Nat.shiftLeft_add_eq_or_of_lt lo.isLt, Nat.shiftLeft_eq]
  omega

/-- A page and a step as a number. -/
theorem pageStep_toNat (page : Nib) (st : Byte) : (page ++ st : BitVec 12).toNat = 256 * page.toNat + st.toNat := by
  rw [BitVec.toNat_append, ← Nat.shiftLeft_add_eq_or_of_lt st.isLt, Nat.shiftLeft_eq]
  omega

theorem hiNib_eq (v : Byte) : hiNib v = BitVec.ofNat 4 (v.toNat / 16) := by
  apply BitVec.eq_of_toNat_eq
  simp [hiNib, Nat.shiftRight_eq_div_pow]

theorem loNib_eq (v : Byte) : loNib v = BitVec.ofNat 4 v.toNat := by
  apply BitVec.eq_of_toNat_eq
  simp [loNib]

/-- 10_state.md R22: counting SP down. -/
theorem sub_eq_spDown (sp : Byte) {k : Nat} (h : k ≤ 256) : sp - BitVec.ofNat 8 k = spDown sp k := by
  apply BitVec.eq_of_toNat_eq
  simp only [spDown, BitVec.toNat_sub, BitVec.toNat_ofNat]
  omega

/-- 10_state.md R22: counting SP up. -/
theorem add_eq_spUp (sp : Byte) (k : Nat) : sp + BitVec.ofNat 8 k = spUp sp k := by
  apply BitVec.eq_of_toNat_eq
  simp [spUp, BitVec.toNat_add, BitVec.toNat_ofNat]

theorem stackAddr_eq (sp : Byte) : stackAddr sp = BitVec.ofNat 12 sp.toNat := by
  apply BitVec.eq_of_toNat_eq
  simp [stackAddr]

/-- 43_index.md R181: one count of X. -/
theorem setX_bump (c : Cpu) : c.setX (byteOf c.xh c.xl + 1#8) = bumpX 1 c := by
  simp only [Cpu.setX, bumpX, hiNib_eq, loNib_eq, BitVec.toNat_add, byteOf_toNat, BitVec.toNat_ofNat]
  congr 1
  apply BitVec.eq_of_toNat_eq
  simp only [BitVec.toNat_ofNat]
  omega

/-- 43_index.md R181: one count of Y. -/
theorem setY_bump (c : Cpu) : c.setY (byteOf c.yh c.yl + 1#8) = bumpY 1 c := by
  simp only [Cpu.setY, bumpY, hiNib_eq, loNib_eq, BitVec.toNat_add, byteOf_toNat, BitVec.toNat_ofNat]
  congr 1
  apply BitVec.eq_of_toNat_eq
  simp only [BitVec.toNat_ofNat]
  omega

/-- Two counts of X. -/
theorem bumpX_bumpX (c : Cpu) : bumpX 1 (bumpX 1 c) = bumpX 2 c := by
  have h1 := c.xh.isLt
  have h2 := c.xl.isLt
  simp only [bumpX, BitVec.toNat_ofNat]
  congr 1 <;> (congr 1; omega)

/-- 47_arith.md R250. -/
theorem add4_eq (a b : Nib) (cin dec : Bool) :
    add4 a b cin dec = (BitVec.ofNat 4 (sumDigit dec (a.toNat + b.toNat + cin.toNat)), sumCarry dec (a.toNat + b.toNat + cin.toNat)) := by
  revert a b cin dec; decide +kernel

/-- 47_arith.md R251. -/
theorem sub4_eq (a b : Nib) (bin dec : Bool) :
    sub4 a b bin dec =
      (BitVec.ofNat 4 (diffDigit dec ((a.toNat : Int) - b.toNat - bin.toNat)), diffBorrow ((a.toNat : Int) - b.toNat - bin.toNat)) := by
  revert a b bin dec; decide +kernel

end Sys2Proof.Machine
end

