-- ==== Sys2Proof/Laws/Operands.lean ====
section
/-! SUPPORT. What the operand operations, the stack operations and their shapes do, once each: the value, the data memory and the core
after them. -/

namespace Sys2Proof.Machine

open Sys2Proof.Safety

/-! ## Operands -/

/-- Everything reading an operand source does (00_scope.md R14). -/
theorem opnd_eq (k : Sel) (s : State) : opnd k s = (srcValue k s s.bus, { s with bus := srcBus k s s.bus }) := by
  cases k <;> rfl

/-- Everything writing an operand destination does (00_scope.md R14). -/
theorem setOpnd_eq (k : Sel) (v : Nib) (s : State) :
    setOpnd k v s = { s with cpu := dstCpu k v s.cpu, bus := dstBus k v s s.bus } := by
  cases k <;> rfl

/-- Everything reading two operand sources does, the first one first (47_arith.md R254). -/
theorem opnds_eq (r q : Sel) (s : State) :
    opnds r q s =
      (srcValue r s s.bus, srcValue q s (srcBus r s s.bus), { s with bus := srcBus q s (srcBus r s s.bus) }) := by
  cases r <;> cases q <;> rfl

@[simp] theorem dstCpu_pc (k : Sel) (v : Nib) (c : Cpu) : (dstCpu k v c).pc = c.pc := by cases k <;> rfl

@[simp] theorem dstCpu_npc (k : Sel) (v : Nib) (c : Cpu) : (dstCpu k v c).npc = c.npc := by cases k <;> rfl

@[simp] theorem dstCpu_fC (k : Sel) (v : Nib) (c : Cpu) : (dstCpu k v c).fC = c.fC := by cases k <;> rfl

@[simp] theorem dstCpu_fZ (k : Sel) (v : Nib) (c : Cpu) : (dstCpu k v c).fZ = c.fZ := by cases k <;> rfl

@[simp] theorem dstCpu_fD (k : Sel) (v : Nib) (c : Cpu) : (dstCpu k v c).fD = c.fD := by cases k <;> rfl

@[simp] theorem dstCpu_fI (k : Sel) (v : Nib) (c : Cpu) : (dstCpu k v c).fI = c.fI := by cases k <;> rfl

@[simp] theorem dstCpu_sp (k : Sel) (v : Nib) (c : Cpu) : (dstCpu k v c).sp = c.sp := by cases k <;> rfl

@[simp] theorem dstCpu_ix (k : Sel) (v : Nib) (c : Cpu) : (dstCpu k v c).ix = c.ix := by cases k <;> rfl

@[simp] theorem dstCpu_iy (k : Sel) (v : Nib) (c : Cpu) : (dstCpu k v c).iy = c.iy := by cases k <;> rfl

/-! ## RAM cells: Mn and the stack -/

@[simp] theorem peek_stackAddr (p : Params) (sp : Byte) (b : Bus) : peek p (stackAddr sp) b = Memory.read b.ram sp.toNat := by
  simp [peek]

@[simp] theorem ack_stackAddr (sp : Byte) (b : Bus) : ack (stackAddr sp) b = b := by simp [ack]

@[simp] theorem busWrite_stackAddr (p : Params) (sp : Byte) (v : Nib) (b : Bus) :
    busWrite p (stackAddr sp) v b = { b with ram := Memory.write b.ram sp.toNat v } := by
  simp [busWrite]

@[simp] theorem peek_nibAddr (p : Params) (n : Nib) (b : Bus) : peek p (nibAddr n) b = Memory.read b.ram n.toNat := by
  simp [peek]

@[simp] theorem ack_nibAddr (n : Nib) (b : Bus) : ack (nibAddr n) b = b := by simp [ack]

@[simp] theorem busWrite_nibAddr (p : Params) (n : Nib) (v : Nib) (b : Bus) :
    busWrite p (nibAddr n) v b = { b with ram := Memory.write b.ram n.toNat v } := by
  simp [busWrite]

/-! ## The stack -/

/-- Everything `Push` does (00_scope.md R16, 46_stack.md R232). -/
theorem push_eq (v : Nib) (s : State) :
    push v s =
      { s with
        cpu := { s.cpu with sp := spDown s.cpu.sp 1 }
        bus := { s.bus with ram := Memory.write s.bus.ram (spDown s.cpu.sp 1).toNat v } } := by
  simp only [push, memWrite, busWrite_stackAddr, ← sub_eq_spDown s.cpu.sp (show 1 ≤ 256 by omega)]

/-- Everything `Pop` does (00_scope.md R16, 46_stack.md R233). -/
theorem pop_eq (s : State) :
    pop s = (Memory.read s.bus.ram s.cpu.sp.toNat, { s with cpu := { s.cpu with sp := spUp s.cpu.sp 1 } }) := by
  simp only [pop, memRead, peek_stackAddr, ack_stackAddr, ← add_eq_spUp]

/-- Everything pushing a return address does (41_branch.md R163). -/
theorem pushReturn_eq (r : PcWord) (s : State) :
    pushReturn r s = { s with cpu := { s.cpu with sp := spDown s.cpu.sp 3 }, bus := pushedReturn s.cpu.sp r s } := by
  have h8 : r.extractLsb' 8 4 = BitVec.ofNat 4 (r.toNat / 256) := by
    apply BitVec.eq_of_toNat_eq; simp [Nat.shiftRight_eq_div_pow]
  have h4 : r.extractLsb' 4 4 = BitVec.ofNat 4 (r.toNat / 16) := by
    apply BitVec.eq_of_toNat_eq; simp [Nat.shiftRight_eq_div_pow]
  have h0 : r.extractLsb' 0 4 = BitVec.ofNat 4 r.toNat := by
    apply BitVec.eq_of_toNat_eq; simp
  simp only [pushReturn, pushedReturn, memWrite, ← stackAddr_eq, h8, h4, h0,
    ← sub_eq_spDown s.cpu.sp (show 1 ≤ 256 by omega), ← sub_eq_spDown s.cpu.sp (show 2 ≤ 256 by omega),
    ← sub_eq_spDown s.cpu.sp (show 3 ≤ 256 by omega)]

/-- Everything the pops of a return do (41_branch.md R160). -/
theorem popReturn_eq (s : State) :
    popReturn s = { s with cpu := { s.cpu with sp := spUp s.cpu.sp 3, pc := returnPc s } } := by
  have h0 : stackAddr s.cpu.sp = stackAddr (spUp s.cpu.sp 0) := by
    rw [← add_eq_spUp]; simp
  have hpc : ∀ lo mid hi : Nib,
      bankAddr (s.cpu.pc.extractLsb' 12 1) (hi ++ byteOf mid lo) =
        BitVec.ofNat 13 (4096 * pcBank s.cpu.pc + 256 * hi.toNat + 16 * mid.toNat + lo.toNat) := by
    intro lo mid hi
    apply BitVec.eq_of_toNat_eq
    have h1 := s.cpu.pc.isLt
    have := lo.isLt; have := mid.isLt; have := hi.isLt
    rw [bankAddr_toNat, pageStep_toNat, byteOf_toNat]
    simp only [pcBank, BitVec.extractLsb'_toNat, BitVec.toNat_ofNat, Nat.shiftRight_eq_div_pow]
    omega
  simp only [popReturn, memRead, ack_stackAddr, h0, hpc, returnPc, stackNum, ← stackAddr_eq, ← add_eq_spUp]

end Sys2Proof.Machine
end

