-- ==== Sys2Proof/Laws/Reach.lean ====
section
/-! SUPPORT. What an instruction can do to the data memory and the devices: nothing but reads and writes of data addresses, one after
another (20_memory.md R60, R86). A property of the bus that every read and every write keeps is so kept by every instruction. -/

namespace Sys2Proof.Machine

open Sys2Proof.Safety

/-- `b'` comes from `b` by reads and writes of data addresses. -/
inductive BusReach (p : Params) (b : Bus) : Bus → Prop where
  | start : BusReach p b b
  | read {c : Bus} (a : Addr) : BusReach p b c → BusReach p b (ack a c)
  | write {c : Bus} (a : Addr) (v : Nib) : BusReach p b c → BusReach p b (busWrite p a v c)

/-- A property that every read and every write keeps is kept by any sequence of them. -/
theorem BusReach.keeps {p : Params} {P : Bus → Prop} (hr : ∀ a b, P b → P (ack a b)) (hw : ∀ a v b, P b → P (busWrite p a v b))
    {b b' : Bus} (h : BusReach p b b') (hb : P b) : P b' := by
  induction h with
  | start => exact hb
  | read a _ ih => exact hr a _ ih
  | write a v _ ih => exact hw a v _ ih

/-- `t` comes from `s` with no change of the parameters or the diagnostic counters, its bus by reads and writes. -/
structure Touches (s t : State) : Prop where
  params : t.params = s.params
  diag : t.diag = s.diag
  bus : BusReach s.params s.bus t.bus

theorem Touches.refl (s : State) : Touches s s := ⟨rfl, rfl, .start⟩

theorem BusReach.trans {p : Params} {b c d : Bus} (h1 : BusReach p b c) (h2 : BusReach p c d) : BusReach p b d := by
  induction h2 with
  | start => exact h1
  | read a _ ih => exact .read a ih
  | write a v _ ih => exact .write a v ih

theorem Touches.trans {s t u : State} (h1 : Touches s t) (h2 : Touches t u) : Touches s u :=
  ⟨h2.params.trans h1.params, h2.diag.trans h1.diag, h1.bus.trans (h1.params ▸ h2.bus)⟩

/-- A change of the core and of the cost touches nothing else. -/
theorem touches_core (c : Cpu) (n : Nat) (s : State) : Touches s { s with cpu := c, cost := n } := ⟨rfl, rfl, .start⟩

theorem touches_memRead (a : Addr) (s : State) : Touches s (memRead a s).2 := ⟨rfl, rfl, .read a .start⟩

theorem touches_memWrite (a : Addr) (v : Nib) (s : State) : Touches s (memWrite a v s) := ⟨rfl, rfl, .write a v .start⟩

theorem touches_opnd (k : Sel) (s : State) : Touches s (opnd k s).2 := by
  cases k
  · exact Touches.refl s
  · exact Touches.refl s
  · exact touches_memRead _ s
  · exact touches_memRead _ s

theorem touches_setOpnd (k : Sel) (v : Nib) (s : State) : Touches s (setOpnd k v s) := by
  cases k
  · exact touches_core _ s.cost s
  · exact touches_core _ s.cost s
  · exact touches_memWrite _ v s
  · exact touches_memWrite _ v s

theorem touches_opnds (r q : Sel) (s : State) : Touches s (opnds r q s).2.2 :=
  (touches_opnd r s).trans (touches_opnd q _)

theorem touches_advance (n : Nat) (s : State) : Touches s (advance n s) := touches_core _ n s

theorem touches_setCZ (x : Nib × Bool) (s : State) : Touches s (setCZ x s) := touches_core _ s.cost s

theorem touches_setZ (v : Nib) (s : State) : Touches s (setZ v s) := touches_core _ s.cost s

theorem touches_incX (s : State) : Touches s (incX s) := touches_core _ s.cost s

theorem touches_incY (s : State) : Touches s (incY s) := touches_core _ s.cost s

theorem touches_setIx (k : IxNib) (v : Nib) (s : State) : Touches s (setIx k v s) := touches_core _ s.cost s

theorem touches_push (v : Nib) (s : State) : Touches s (push v s) :=
  (touches_core { s.cpu with sp := s.cpu.sp - 1#8 } s.cost s).trans (touches_memWrite _ v _)

theorem touches_pop (s : State) : Touches s (pop s).2 :=
  (touches_memRead _ s).trans (touches_core _ s.cost _)

theorem touches_pushReturn (r : PcWord) (s : State) : Touches s (pushReturn r s) :=
  (((touches_memWrite _ _ s).trans (touches_memWrite _ _ _)).trans (touches_memWrite _ _ _)).trans (touches_core _ s.cost _)

theorem touches_popReturn (s : State) : Touches s (popReturn s) :=
  (((touches_memRead _ s).trans (touches_memRead _ _)).trans (touches_memRead _ _)).trans (touches_core _ s.cost _)

theorem touches_resultCZ (r : Sel) (x : Nib × Bool) (n : Nat) (s : State) : Touches s (resultCZ r x n s) :=
  ((touches_setOpnd r x.1 s).trans (touches_setCZ x _)).trans (touches_advance n _)

theorem touches_resultZ (r : Sel) (v : Nib) (n : Nat) (s : State) : Touches s (resultZ r v n s) :=
  ((touches_setOpnd r v s).trans (touches_setZ v _)).trans (touches_advance n _)

theorem touches_condJump (c : Bool) (e : Byte) (s : State) : Touches s (condJump c e s) := by
  unfold condJump
  split
  · exact touches_core _ 5 s
  · exact touches_advance 5 s

theorem touches_callTo (page : Nib) (e : Byte) (s : State) : Touches s (callTo page e s) :=
  (touches_pushReturn _ s).trans (touches_core _ 7 _)

theorem touches_storeByteX (e : Byte) (s : State) : Touches s (storeByteX e s) :=
  (((touches_memWrite _ _ s).trans (touches_incX _)).trans (touches_memWrite _ _ _)).trans (touches_incX _)

theorem touches_moveOpnd (r q : Sel) (s : State) : Touches s (moveOpnd r q s) :=
  (touches_opnd q s).trans (touches_setOpnd r _ _)

theorem touches_loadIx (k : IxNib) (r : Sel) (s : State) : Touches s (loadIx k r s) :=
  ((touches_opnd r s).trans (touches_setIx k _ _)).trans (touches_advance 5 _)

theorem touches_storeIx (k : IxNib) (r : Sel) (s : State) : Touches s (storeIx k r s) :=
  (touches_setOpnd r _ s).trans (touches_advance 5 _)

theorem touches_pushIx (k : IxNib) (s : State) : Touches s (pushIx k s) := (touches_push _ s).trans (touches_advance 5 _)

theorem touches_popIx (k : IxNib) (s : State) : Touches s (popIx k s) :=
  ((touches_pop s).trans (touches_setIx k _ _)).trans (touches_advance 5 _)

theorem touches_arithImm (f : Nib → Nib → Nib × Bool) (r : Sel) (i : Nib) (s : State) : Touches s (arithImm f r i s) :=
  (touches_opnd r s).trans (touches_resultCZ r _ 7 _)

theorem touches_arithOpnd (f : Nib → Nib → Nib × Bool) (r q : Sel) (s : State) : Touches s (arithOpnd f r q s) :=
  (touches_opnds r q s).trans (touches_resultCZ r _ 7 _)

theorem touches_logicImm (f : Nib → Nib → Nib) (r : Sel) (i : Nib) (s : State) : Touches s (logicImm f r i s) :=
  (touches_opnd r s).trans (touches_resultZ r _ 7 _)

theorem touches_logicOpnd (f : Nib → Nib → Nib) (r q : Sel) (s : State) : Touches s (logicOpnd f r q s) :=
  (touches_opnds r q s).trans (touches_resultZ r _ 7 _)

theorem touches_rotate (f : Nib → Bool → Nib × Bool) (r : Sel) (n : Nat) (s : State) : Touches s (rotate f r n s) :=
  (((touches_opnd r s).trans (touches_setOpnd r _ _)).trans (touches_core _ _ _)).trans (touches_advance n _)

theorem touches_countMem (f : Nib → Nib × Bool) (n : Nib) (s : State) : Touches s (countMem f n s) :=
  (((touches_memRead _ s).trans (touches_memWrite _ _ _)).trans (touches_setCZ _ _)).trans (touches_advance 7 _)

theorem touches_digitOp (f : Nib → Nib → Nib × Bool) (m r : Sel) (inc : State → State) (hinc : ∀ s, Touches s (inc s)) (s : State) :
    Touches s (digitOp f m r inc s) :=
  ((((touches_opnds m r s).trans (touches_setOpnd m _ _)).trans (touches_setCZ _ _)).trans (hinc _)).trans (touches_advance 7 _)

/-- What every instruction can do: reads and writes of data addresses, and changes of the core (20_memory.md R86). -/
theorem exec_touches (i : Instr) (s t : State) (h : exec i s = .next t) : Touches s t := by
  cases i <;> injection h with h <;> subst h
  case jp => exact touches_core _ 5 s
  case retd => exact ((touches_popReturn s).trans (touches_storeByteX _ _)).trans (touches_core _ 12 _)
  case jpC => exact touches_condJump _ _ s
  case jpNC => exact touches_condJump _ _ s
  case call => exact touches_callTo _ _ s
  case calz => exact touches_callTo _ _ s
  case jpZ => exact touches_condJump _ _ s
  case jpNZ => exact touches_condJump _ _ s
  case ldY => exact touches_core _ 5 s
  case lbpx => exact (touches_storeByteX _ s).trans (touches_advance 5 _)
  case adcXH => exact touches_core _ 7 s
  case adcXL => exact touches_core _ 7 s
  case adcYH => exact touches_core _ 7 s
  case adcYL => exact touches_core _ 7 s
  case cpXH => exact touches_core _ 7 s
  case cpXL => exact touches_core _ 7 s
  case cpYH => exact touches_core _ 7 s
  case cpYL => exact touches_core _ 7 s
  case addRQ => exact touches_arithOpnd _ _ _ s
  case adcRQ => exact touches_arithOpnd _ _ _ s
  case subRQ => exact touches_arithOpnd _ _ _ s
  case sbcRQ => exact touches_arithOpnd _ _ _ s
  case andRQ => exact touches_logicOpnd _ _ _ s
  case orRQ => exact touches_logicOpnd _ _ _ s
  case xorRQ => exact touches_logicOpnd _ _ _ s
  case rlc => exact touches_rotate _ _ 7 s
  case undefined => exact touches_advance _ s
  case ldX => exact touches_core _ 5 s
  case addRI => exact touches_arithImm _ _ _ s
  case adcRI => exact touches_arithImm _ _ _ s
  case andRI => exact touches_logicImm _ _ _ s
  case orRI => exact touches_logicImm _ _ _ s
  case xorRI => exact touches_logicImm _ _ _ s
  case sbcRI => exact touches_arithImm _ _ _ s
  case fanRI => exact ((touches_opnd _ s).trans (touches_setZ _ _)).trans (touches_advance 7 _)
  case cpRI => exact ((touches_opnd _ s).trans (touches_setCZ _ _)).trans (touches_advance 7 _)
  case ldRI => exact (touches_setOpnd _ _ s).trans (touches_advance 5 _)
  case pset => exact touches_core _ 5 s
  case ldpxI => exact ((touches_setOpnd _ _ s).trans (touches_incX _)).trans (touches_advance 5 _)
  case ldpyI => exact ((touches_setOpnd _ _ s).trans (touches_incY _)).trans (touches_advance 5 _)
  case ldXP => exact touches_loadIx _ _ s
  case ldXH => exact touches_loadIx _ _ s
  case ldXL => exact touches_loadIx _ _ s
  case rrc => exact touches_rotate _ _ 5 s
  case ldYP => exact touches_loadIx _ _ s
  case ldYH => exact touches_loadIx _ _ s
  case ldYL => exact touches_loadIx _ _ s
  case ldRXP => exact touches_storeIx _ _ s
  case ldRXH => exact touches_storeIx _ _ s
  case ldRXL => exact touches_storeIx _ _ s
  case ldRYP => exact touches_storeIx _ _ s
  case ldRYH => exact touches_storeIx _ _ s
  case ldRYL => exact touches_storeIx _ _ s
  case ldRQ => exact (touches_moveOpnd _ _ s).trans (touches_advance 5 _)
  case ldpxRQ => exact ((touches_moveOpnd _ _ s).trans (touches_incX _)).trans (touches_advance 5 _)
  case ldpyRQ => exact ((touches_moveOpnd _ _ s).trans (touches_incY _)).trans (touches_advance 5 _)
  case cpRQ => exact ((touches_opnds _ _ s).trans (touches_setCZ _ _)).trans (touches_advance 7 _)
  case fanRQ => exact ((touches_opnds _ _ s).trans (touches_setZ _ _)).trans (touches_advance 7 _)
  case acpx => exact touches_digitOp _ _ _ incX touches_incX s
  case acpy => exact touches_digitOp _ _ _ incY touches_incY s
  case scpx => exact touches_digitOp _ _ _ incX touches_incX s
  case scpy => exact touches_digitOp _ _ _ incY touches_incY s
  case setF => exact touches_core _ 7 s
  case rstF => exact touches_core _ 7 s
  case incM => exact touches_countMem _ _ s
  case decM => exact touches_countMem _ _ s
  case ldMA => exact (touches_memWrite _ _ s).trans (touches_advance 5 _)
  case ldMB => exact (touches_memWrite _ _ s).trans (touches_advance 5 _)
  case ldAM => exact ((touches_memRead _ s).trans (touches_setOpnd .a _ _)).trans (touches_advance 5 _)
  case ldBM => exact ((touches_memRead _ s).trans (touches_setOpnd .b _ _)).trans (touches_advance 5 _)
  case push => exact ((touches_opnd _ s).trans (touches_push _ _)).trans (touches_advance 5 _)
  case pushXP => exact touches_pushIx _ s
  case pushXH => exact touches_pushIx _ s
  case pushXL => exact touches_pushIx _ s
  case pushYP => exact touches_pushIx _ s
  case pushYH => exact touches_pushIx _ s
  case pushYL => exact touches_pushIx _ s
  case pushF => exact (touches_push _ s).trans (touches_advance 5 _)
  case decSP => exact touches_core _ 5 s
  case pop => exact ((touches_pop s).trans (touches_setOpnd _ _ _)).trans (touches_advance 5 _)
  case popXP => exact touches_popIx _ s
  case popXH => exact touches_popIx _ s
  case popXL => exact touches_popIx _ s
  case popYP => exact touches_popIx _ s
  case popYH => exact touches_popIx _ s
  case popYL => exact touches_popIx _ s
  case popF => exact ((touches_pop s).trans (touches_core _ s.cost _)).trans (touches_advance 5 _)
  case incSP => exact touches_core _ 5 s
  case rets => exact (touches_popReturn s).trans (touches_advance 12 _)
  case ret => exact (touches_popReturn s).trans (touches_core _ 7 _)
  case ldSPH => exact (touches_opnd _ s).trans (touches_core _ 5 _)
  case ldRSPH => exact (touches_setOpnd _ _ s).trans (touches_advance 5 _)
  case jpba => exact touches_core _ 5 s
  case ldSPL => exact (touches_opnd _ s).trans (touches_core _ 5 _)
  case ldRSPL => exact (touches_setOpnd _ _ s).trans (touches_advance 5 _)
  case halt => exact touches_core _ 5 s
  case slp => exact touches_core _ 5 s
  case nop5 => exact touches_advance 5 s
  case nop7 => exact touches_advance 7 s
  case scf => exact touches_core _ 7 s
  case szf => exact touches_core _ 7 s
  case sdf => exact touches_core _ 7 s
  case ei => exact touches_core _ 7 s
  case rcf => exact touches_core _ 7 s
  case rzf => exact touches_core _ 7 s
  case rdf => exact touches_core _ 7 s
  case di => exact touches_core _ 7 s
  case incX => exact ((touches_moveOpnd .a .a s).trans (touches_incX _)).trans (touches_advance 5 _)
  case incY => exact ((touches_moveOpnd .a .a s).trans (touches_incY _)).trans (touches_advance 5 _)
  case notA => exact touches_logicImm _ _ _ s
  case notB => exact touches_logicImm _ _ _ s
  case notMX => exact touches_logicImm _ _ _ s
  case notMY => exact touches_logicImm _ _ _ s

/-- The three ways a step goes (60_exceptions.md R300), of which an executed instruction is given with its own next state. -/
theorem step_cases (s u : State) (h : cycle s = .next u) :
    (s.cpu.resetLatch = true ∧ u = { s with cost := s.params.haltStepCycles }) ∨
    (s.cpu.resetLatch = false ∧ s.cpu.halt = true ∧ u = haltedStep s) ∨
    (s.cpu.resetLatch = false ∧ s.cpu.halt = false ∧ ∃ t, exec (decode (fetch s)) s = .next t ∧
      u = finishStep (isPset (fetch s)) (epilogue s.cpu.fI (isPset (fetch s)) t)) := by
  unfold cycle at h
  split at h
  · cases h; exact .inl ⟨‹_›, rfl⟩
  · split at h
    · cases h; exact .inr (.inl ⟨by simp_all, ‹_›, rfl⟩)
    · cases he : exec (decode (fetch s)) s with
      | next t =>
        rw [he] at h
        cases h
        exact .inr (.inr ⟨by simp_all, by simp_all, t, rfl, rfl⟩)
      | fault r => rw [he] at h; cases h
      | refused r => rw [he] at h; cases h

/-- The three ways an interrupt check goes (60_exceptions.md R306). -/
theorem interruptCheck_cases (pset : Bool) (s : State) :
    (s.cpu.intDelay = true ∧ interruptCheck pset s = { s with cpu := { s.cpu with intDelay := false } }) ∨
    (s.cpu.intDelay = false ∧ interruptCheck pset s = s ∧
      (s.cpu.fI = false ∨ (s.params.psetMasksInterrupt && pset) = true ∨ pendingSource s.bus.io = none)) ∨
    (s.cpu.intDelay = false ∧ s.cpu.fI = true ∧ (s.params.psetMasksInterrupt && pset) = false ∧
      ∃ src, pendingSource s.bus.io = some src ∧ interruptCheck pset s = enterInterrupt src s) := by
  unfold interruptCheck
  cases hd : s.cpu.intDelay
  · cases hI : s.cpu.fI
    · exact .inr (.inl ⟨rfl, rfl, .inl rfl⟩)
    · cases hp : s.params.psetMasksInterrupt && pset
      · cases hs : pendingSource s.bus.io with
        | none => exact .inr (.inl ⟨rfl, rfl, .inr (.inr rfl)⟩)
        | some src => exact .inr (.inr ⟨rfl, rfl, rfl, src, rfl, rfl⟩)
      · exact .inr (.inl ⟨rfl, rfl, .inr (.inl rfl)⟩)
  · exact .inl ⟨rfl, rfl⟩

end Sys2Proof.Machine
end

