-- ==== Sys2Proof/Laws/Bus.lean ====
section
/-! SUPPORT. Every operation that changes a memory keeps the canonical form, and the memories of the reset state have it. -/

namespace Sys2Proof.Machine

open Sys2Proof.Safety

/-- An acknowledging read keeps both memories canonical. -/
theorem memOk_ack {b : Bus} (a : Addr) (h : MemOk b) : MemOk (ack a b) := by
  simpa [MemOk] using h

/-- A VRAM write inside the array keeps both memories canonical. -/
theorem memOk_vramWrite {b : Bus} {i : Nat} (v : Nib) (hi : i < 160) (h : MemOk b) : MemOk (vramWrite i v b) :=
  ⟨h.1, Memory.wf_write hi h.2⟩

/-- A write to a register keeps both memories canonical. -/
theorem memOk_ioWrite {b : Bus} (p : Params) (r : IoReg) (v : Nib) (h : MemOk b) : MemOk (ioWrite p r v b) := by
  simpa [MemOk] using h

/-- A write to any data address keeps both memories canonical. -/
theorem memOk_busWrite {b : Bus} (p : Params) (a : Addr) (v : Nib) (h : MemOk b) : MemOk (busWrite p a v b) := by
  unfold busWrite
  cases hr : regionOf a with
  | ram i => exact ⟨Memory.wf_write (regionOf_ram_lt hr).1 h.1, h.2⟩
  | vram i => exact memOk_vramWrite v (regionOf_vram_lt hr) h
  | io r => exact memOk_ioWrite p r v h
  | unmapped => exact h

/-- Any sequence of reads and writes keeps both memories canonical. -/
theorem memOk_reach {p : Params} {b b' : Bus} (h : BusReach p b b') (hb : MemOk b) : MemOk b' :=
  h.keeps (fun a _ => memOk_ack a) (fun a v _ => memOk_busWrite p a v) hb

/-- Every instruction keeps both memories canonical. -/
theorem memOk_exec {i : Instr} {s t : State} (h : exec i s = .next t) (hs : MemOk s.bus) : MemOk t.bus :=
  memOk_reach (exec_touches i s t h).bus hs

/-- Ticks of the oscillator keep both memories canonical. -/
theorem memOk_oscTicks {b : Bus} (p : Params) (n : Nat) (h : MemOk b) : MemOk (oscTicks p n b) := by
  simpa [MemOk] using h

/-- The memories are canonical after construction, so in `State.reset`. -/
theorem memOk_construct (p : Params) : MemOk (State.construct p).bus := ⟨rfl, rfl⟩

end Sys2Proof.Machine
end

