-- ==== Sys2Proof/Laws/Clock.lean ====
section
/-! SUPPORT. Advancing the clock network is a number of oscillator ticks and a new oscillator residual (60_exceptions.md R321). -/

namespace Sys2Proof.Machine

open Sys2Proof.Safety

@[simp] theorem withOscResidual_ram (q : Rat) (b : Bus) : (withOscResidual q b).ram = b.ram := rfl
@[simp] theorem withOscResidual_vram (q : Rat) (b : Bus) : (withOscResidual q b).vram = b.vram := rfl
@[simp] theorem withOscResidual_io (q : Rat) (b : Bus) : (withOscResidual q b).io = b.io := rfl
@[simp] theorem withOscResidual_bz (q : Rat) (b : Bus) : (withOscResidual q b).bz = b.bz := rfl
@[simp] theorem withOscResidual_oscResidual (q : Rat) (b : Bus) : (withOscResidual q b).clk.oscResidual = q := rfl
@[simp] theorem withOscResidual_withOscResidual (q r : Rat) (b : Bus) :
    withOscResidual q (withOscResidual r b) = withOscResidual q b := rfl

theorem emitIfChanged_withOscResidual (p : Params) (q : Rat) (b : Bus) :
    emitIfChanged p (withOscResidual q b) = withOscResidual q (emitIfChanged p b) := by
  show (if buzzerEvent p b = b.bz.lastEvent then _ else _) = withOscResidual q (if buzzerEvent p b = b.bz.lastEvent then _ else _)
  split <;> rfl

theorem buzzerUpdate_withOscResidual (p : Params) (q : Rat) (b : Bus) :
    buzzerUpdate p (withOscResidual q b) = withOscResidual q (buzzerUpdate p b) := by
  simp only [buzzerUpdate, ← emitIfChanged_withOscResidual]
  congr 1
  show (_ : Bus) = withOscResidual q _
  cases h : buzzerRequest p b && !b.bz.prevRequest
  · have h' : (buzzerRequest p (withOscResidual q b) && !(withOscResidual q b).bz.prevRequest) = false := h
    rw [h']
    rfl
  · have h' : (buzzerRequest p (withOscResidual q b) && !(withOscResidual q b).bz.prevRequest) = true := h
    rw [h']
    rfl

theorem shotTick_withOscResidual (q : Rat) (b : Bus) : shotTick (withOscResidual q b) = withOscResidual q (shotTick b) := by
  show (if b.bz.shotActive = true then _ else _) = withOscResidual q (if b.bz.shotActive = true then _ else _)
  split <;> rfl

theorem envTick_withOscResidual (p : Params) (q : Rat) (b : Bus) :
    envTick p (withOscResidual q b) = withOscResidual q (envTick p b) := by
  show (if (b.io.enon && buzzerRequest p b && b.bz.envLevel.val != 0) = true then (if b.bz.envCount - 1 = 0 then _ else _) else _) =
    withOscResidual q
      (if (b.io.enon && buzzerRequest p b && b.bz.envLevel.val != 0) = true then (if b.bz.envCount - 1 = 0 then _ else _) else _)
  split
  · split <;> rfl
  · rfl

theorem mainTimerTick_withOscResidual (p : Params) (q : Rat) (b : Bus) :
    mainTimerTick p (withOscResidual q b) = withOscResidual q (mainTimerTick p b) := by
  show (if b.clk.tmResidual - 1 ≤ 0 then _ else _) = withOscResidual q (if b.clk.tmResidual - 1 ≤ 0 then _ else _)
  split <;> rfl

theorem stopwatchTick_withOscResidual (p : Params) (q : Rat) (b : Bus) :
    stopwatchTick p (withOscResidual q b) = withOscResidual q (stopwatchTick p b) := by
  show (if b.clk.swResidual - 1 ≤ 0 then (if b.io.swrun = true then _ else _) else _) =
    withOscResidual q (if b.clk.swResidual - 1 ≤ 0 then (if b.io.swrun = true then _ else _) else _)
  split
  · split <;> rfl
  · rfl

/-- With no clock selected the programmable timer does nothing (60_exceptions.md R342). -/
theorem progTimerTick_none {p : Params} {b : Bus} (h : ptDivider p b.io = none) : progTimerTick p b = b := by
  simp only [progTimerTick, h]

/-- Everything the programmable timer does in a tick with the divider `d` selected (60_exceptions.md R342). -/
theorem progTimerTick_some {p : Params} {b : Bus} {d : Rat} (h : ptDivider p b.io = some d) :
    progTimerTick p b =
      if b.clk.ptResidual - 1 ≤ 0 then
        { b with
          clk := { b.clk with ptResidual := b.clk.ptResidual - 1 + d }
          io := if b.io.ptrun then progTimerCount b.io else b.io }
      else { b with clk := { b.clk with ptResidual := b.clk.ptResidual - 1 } } := by
  simp only [progTimerTick, h]

theorem progTimerTick_withOscResidual (p : Params) (q : Rat) (b : Bus) :
    progTimerTick p (withOscResidual q b) = withOscResidual q (progTimerTick p b) := by
  cases h : ptDivider p b.io with
  | none => rw [progTimerTick_none h, progTimerTick_none (show ptDivider p (withOscResidual q b).io = none from h)]
  | some d =>
    rw [progTimerTick_some h, progTimerTick_some (show ptDivider p (withOscResidual q b).io = some d from h)]
    show (if b.clk.ptResidual - 1 ≤ 0 then _ else _) = _
    split <;> rfl

/-- What an oscillator tick does to the devices does not depend on the oscillator residual, which it leaves alone. -/
theorem oscTick_withOscResidual (p : Params) (q : Rat) (b : Bus) :
    oscTick p (withOscResidual q b) = withOscResidual q (oscTick p b) := by
  simp only [oscTick, buzzerTick, ← buzzerUpdate_withOscResidual, ← envTick_withOscResidual, ← shotTick_withOscResidual,
    ← progTimerTick_withOscResidual, ← stopwatchTick_withOscResidual, ← mainTimerTick_withOscResidual]
  rfl

theorem oscTicks_withOscResidual (p : Params) (n : Nat) (q : Rat) (b : Bus) :
    oscTicks p n (withOscResidual q b) = withOscResidual q (oscTicks p n b) := by
  induction n generalizing b with
  | zero => rfl
  | succ n ih => simp only [oscTicks, oscTick_withOscResidual, ih]

/-- An oscillator tick leaves the oscillator residual alone. -/
@[simp] theorem oscTick_oscResidual (p : Params) (b : Bus) : (oscTick p b).clk.oscResidual = b.clk.oscResidual := by
  show (oscTick p (withOscResidual b.clk.oscResidual b)).clk.oscResidual = _
  rw [oscTick_withOscResidual, withOscResidual_oscResidual]

/-- The loop runs some number of oscillator ticks and sets the residual. -/
theorem clockLoop_ticks (p : Params) (n : Nat) (b : Bus) :
    ∃ k, k ≤ n ∧ clockLoop p n b = withOscResidual (b.clk.oscResidual + k * oscDiv p) (oscTicks p k b) := by
  induction n generalizing b with
  | zero => exact ⟨0, le_refl 0, by simp [clockLoop, oscTicks, withOscResidual]⟩
  | succ n ih =>
    simp only [clockLoop]
    split
    · obtain ⟨k, hk, h⟩ := ih (withOscResidual ((oscTick p b).clk.oscResidual + oscDiv p) (oscTick p b))
      refine ⟨k + 1, by omega, ?_⟩
      rw [h, oscTicks_withOscResidual, withOscResidual_withOscResidual, withOscResidual_oscResidual, oscTick_oscResidual, oscTicks]
      congr 1
      push_cast
      ring
    · exact ⟨0, Nat.zero_le _, by simp [oscTicks, withOscResidual]⟩

/-- Advancing the clock network is a number of oscillator ticks and a new residual. -/
theorem clockAdvance_ticks (p : Params) (c : Nat) (b : Bus) :
    ∃ k : Nat, clockAdvance p c b = withOscResidual (b.clk.oscResidual - c + k * oscDiv p) (oscTicks p k b) := by
  obtain ⟨k, _, h⟩ := clockLoop_ticks p (ticksDue p (b.clk.oscResidual - c)) (withOscResidual (b.clk.oscResidual - c) b)
  exact ⟨k, by simpa only [clockAdvance, oscTicks_withOscResidual, withOscResidual_withOscResidual, withOscResidual_oscResidual] using h⟩

@[simp] theorem clockAdvance_ram (p : Params) (c : Nat) (b : Bus) : (clockAdvance p c b).ram = b.ram := by
  obtain ⟨k, h⟩ := clockAdvance_ticks p c b
  rw [h]; simp

@[simp] theorem clockAdvance_vram (p : Params) (c : Nat) (b : Bus) : (clockAdvance p c b).vram = b.vram := by
  obtain ⟨k, h⟩ := clockAdvance_ticks p c b
  rw [h]; simp

/-- Advancing the clock network keeps both memories canonical. -/
theorem memOk_clockAdvance {b : Bus} (p : Params) (c : Nat) (h : MemOk b) : MemOk (clockAdvance p c b) := by
  simpa [MemOk] using h

end Sys2Proof.Machine
end

