-- ==== Sys2Proof/Laws/PerInstr.lean ====
section
/-! SUPPORT. Statements made per instruction. `Encoding`: the value that the encoder gives a well-formed instruction lies in a range of
its row (30_encoding.md R133, R134, R136). -/

namespace Sys2Proof.Laws.Encoding

set_option Elab.async false

open Sys2Proof.Safety

/-- The encoder keeps every well-formed instruction inside its row's ranges (30_encoding.md R133, R134, R136). -/
def Statement (i : Instr) : Prop := i.wf = true → inRanges i (encode i) = true

/-- A row of two operand selectors: the sixteen cases. -/
theorem rows_sel_sel {f : Sel → Sel → Instr} (h : ∀ r, r ∈ [Sel.a, .b, .mx, .my] → ∀ q, q ∈ [Sel.a, .b, .mx, .my] →
    inRanges (f r q) (encode (f r q)) = true) (r q : Sel) : Statement (f r q) :=
  fun _ => h r (by cases r <;> simp) q (by cases q <;> simp)

/-- A row of one operand selector: the four cases. -/
theorem rows_sel {f : Sel → Instr} (h : ∀ r, r ∈ [Sel.a, .b, .mx, .my] → inRanges (f r) (encode (f r)) = true) (r : Sel) :
    Statement (f r) :=
  fun _ => h r (by cases r <;> simp)

/-- A row of an operand selector and an immediate nibble. -/
theorem rows_sel_nib {f : Sel → Nib → Instr} (h : ∀ r, r ∈ [Sel.a, .b, .mx, .my] → ∀ i, inRanges (f r i) (encode (f r i)) = true)
    (r : Sel) (i : Nib) : Statement (f r i) :=
  fun _ => h r (by cases r <;> simp) i

theorem jp (s : Byte) : Statement (.jp s) := fun _ => by revert s; decide +kernel

theorem retd (e : Byte) : Statement (.retd e) := fun _ => by revert e; decide +kernel

theorem jpC (s : Byte) : Statement (.jpC s) := fun _ => by revert s; decide +kernel

theorem jpNC (s : Byte) : Statement (.jpNC s) := fun _ => by revert s; decide +kernel

theorem call (s : Byte) : Statement (.call s) := fun _ => by revert s; decide +kernel

theorem calz (s : Byte) : Statement (.calz s) := fun _ => by revert s; decide +kernel

theorem jpZ (s : Byte) : Statement (.jpZ s) := fun _ => by revert s; decide +kernel

theorem jpNZ (s : Byte) : Statement (.jpNZ s) := fun _ => by revert s; decide +kernel

theorem ldY (e : Byte) : Statement (.ldY e) := fun _ => by revert e; decide +kernel

theorem lbpx (e : Byte) : Statement (.lbpx e) := fun _ => by revert e; decide +kernel

theorem adcXH (i : Nib) : Statement (.adcXH i) := fun _ => by revert i; decide +kernel

theorem adcXL (i : Nib) : Statement (.adcXL i) := fun _ => by revert i; decide +kernel

theorem adcYH (i : Nib) : Statement (.adcYH i) := fun _ => by revert i; decide +kernel

theorem adcYL (i : Nib) : Statement (.adcYL i) := fun _ => by revert i; decide +kernel

theorem cpXH (i : Nib) : Statement (.cpXH i) := fun _ => by revert i; decide +kernel

theorem cpXL (i : Nib) : Statement (.cpXL i) := fun _ => by revert i; decide +kernel

theorem cpYH (i : Nib) : Statement (.cpYH i) := fun _ => by revert i; decide +kernel

theorem cpYL (i : Nib) : Statement (.cpYL i) := fun _ => by revert i; decide +kernel

theorem addRQ (r q : Sel) : Statement (.addRQ r q) := rows_sel_sel (by decide +kernel) r q

theorem adcRQ (r q : Sel) : Statement (.adcRQ r q) := rows_sel_sel (by decide +kernel) r q

theorem subRQ (r q : Sel) : Statement (.subRQ r q) := rows_sel_sel (by decide +kernel) r q

theorem sbcRQ (r q : Sel) : Statement (.sbcRQ r q) := rows_sel_sel (by decide +kernel) r q

theorem andRQ (r q : Sel) : Statement (.andRQ r q) := rows_sel_sel (by decide +kernel) r q

theorem orRQ (r q : Sel) : Statement (.orRQ r q) := rows_sel_sel (by decide +kernel) r q

theorem xorRQ (r q : Sel) : Statement (.xorRQ r q) := rows_sel_sel (by decide +kernel) r q

theorem rlc (r : Sel) : Statement (.rlc r) := rows_sel (by decide +kernel) r

theorem undefined (op : Opcode) : Statement (.undefined op) := by
  revert op
  unfold Statement
  decide +kernel

theorem ldX (e : Byte) : Statement (.ldX e) := fun _ => by revert e; decide +kernel

theorem addRI (r : Sel) (i : Nib) : Statement (.addRI r i) := rows_sel_nib (by decide +kernel) r i

theorem adcRI (r : Sel) (i : Nib) : Statement (.adcRI r i) := rows_sel_nib (by decide +kernel) r i

theorem andRI (r : Sel) (i : Nib) : Statement (.andRI r i) := rows_sel_nib (by decide +kernel) r i

theorem orRI (r : Sel) (i : Nib) : Statement (.orRI r i) := rows_sel_nib (by decide +kernel) r i

theorem xorRI (r : Sel) (i : Nib) : Statement (.xorRI r i) := rows_sel_nib (by decide +kernel) r i

theorem sbcRI (r : Sel) (i : Nib) : Statement (.sbcRI r i) := rows_sel_nib (by decide +kernel) r i

theorem fanRI (r : Sel) (i : Nib) : Statement (.fanRI r i) := rows_sel_nib (by decide +kernel) r i

theorem cpRI (r : Sel) (i : Nib) : Statement (.cpRI r i) := rows_sel_nib (by decide +kernel) r i

theorem ldRI (r : Sel) (i : Nib) : Statement (.ldRI r i) := rows_sel_nib (by decide +kernel) r i

theorem pset (p : BitVec 5) : Statement (.pset p) := fun _ => by revert p; decide +kernel

theorem ldpxI (i : Nib) : Statement (.ldpxI i) := fun _ => by revert i; decide +kernel

theorem ldpyI (i : Nib) : Statement (.ldpyI i) := fun _ => by revert i; decide +kernel

theorem ldXP (r : Sel) : Statement (.ldXP r) := rows_sel (by decide +kernel) r

theorem ldXH (r : Sel) : Statement (.ldXH r) := rows_sel (by decide +kernel) r

theorem ldXL (r : Sel) : Statement (.ldXL r) := rows_sel (by decide +kernel) r

theorem rrc (r : Sel) : Statement (.rrc r) := rows_sel (by decide +kernel) r

theorem ldYP (r : Sel) : Statement (.ldYP r) := rows_sel (by decide +kernel) r

theorem ldYH (r : Sel) : Statement (.ldYH r) := rows_sel (by decide +kernel) r

theorem ldYL (r : Sel) : Statement (.ldYL r) := rows_sel (by decide +kernel) r

theorem ldRXP (r : Sel) : Statement (.ldRXP r) := rows_sel (by decide +kernel) r

theorem ldRXH (r : Sel) : Statement (.ldRXH r) := rows_sel (by decide +kernel) r

theorem ldRXL (r : Sel) : Statement (.ldRXL r) := rows_sel (by decide +kernel) r

theorem ldRYP (r : Sel) : Statement (.ldRYP r) := rows_sel (by decide +kernel) r

theorem ldRYH (r : Sel) : Statement (.ldRYH r) := rows_sel (by decide +kernel) r

theorem ldRYL (r : Sel) : Statement (.ldRYL r) := rows_sel (by decide +kernel) r

theorem ldRQ (r q : Sel) : Statement (.ldRQ r q) := rows_sel_sel (by decide +kernel) r q

theorem ldpxRQ (r q : Sel) : Statement (.ldpxRQ r q) := rows_sel_sel (by decide +kernel) r q

theorem ldpyRQ (r q : Sel) : Statement (.ldpyRQ r q) := rows_sel_sel (by decide +kernel) r q

theorem cpRQ (r q : Sel) : Statement (.cpRQ r q) := rows_sel_sel (by decide +kernel) r q

theorem fanRQ (r q : Sel) : Statement (.fanRQ r q) := rows_sel_sel (by decide +kernel) r q

theorem acpx (r : Sel) : Statement (.acpx r) := rows_sel (by decide +kernel) r

theorem acpy (r : Sel) : Statement (.acpy r) := rows_sel (by decide +kernel) r

theorem scpx (r : Sel) : Statement (.scpx r) := rows_sel (by decide +kernel) r

theorem scpy (r : Sel) : Statement (.scpy r) := rows_sel (by decide +kernel) r

theorem setF (i : Nib) : Statement (.setF i) := fun _ => by revert i; decide +kernel

theorem rstF (i : Nib) : Statement (.rstF i) := fun _ => by revert i; decide +kernel

theorem incM (n : Nib) : Statement (.incM n) := fun _ => by revert n; decide +kernel

theorem decM (n : Nib) : Statement (.decM n) := fun _ => by revert n; decide +kernel

theorem ldMA (n : Nib) : Statement (.ldMA n) := fun _ => by revert n; decide +kernel

theorem ldMB (n : Nib) : Statement (.ldMB n) := fun _ => by revert n; decide +kernel

theorem ldAM (n : Nib) : Statement (.ldAM n) := fun _ => by revert n; decide +kernel

theorem ldBM (n : Nib) : Statement (.ldBM n) := fun _ => by revert n; decide +kernel

theorem push (r : Sel) : Statement (.push r) := rows_sel (by decide +kernel) r

theorem pushXP : Statement .pushXP := fun _ => by decide

theorem pushXH : Statement .pushXH := fun _ => by decide

theorem pushXL : Statement .pushXL := fun _ => by decide

theorem pushYP : Statement .pushYP := fun _ => by decide

theorem pushYH : Statement .pushYH := fun _ => by decide

theorem pushYL : Statement .pushYL := fun _ => by decide

theorem pushF : Statement .pushF := fun _ => by decide

theorem decSP : Statement .decSP := fun _ => by decide

theorem pop (r : Sel) : Statement (.pop r) := rows_sel (by decide +kernel) r

theorem popXP : Statement .popXP := fun _ => by decide

theorem popXH : Statement .popXH := fun _ => by decide

theorem popXL : Statement .popXL := fun _ => by decide

theorem popYP : Statement .popYP := fun _ => by decide

theorem popYH : Statement .popYH := fun _ => by decide

theorem popYL : Statement .popYL := fun _ => by decide

theorem popF : Statement .popF := fun _ => by decide

theorem incSP : Statement .incSP := fun _ => by decide

theorem rets : Statement .rets := fun _ => by decide

theorem ret : Statement .ret := fun _ => by decide

theorem ldSPH (r : Sel) : Statement (.ldSPH r) := rows_sel (by decide +kernel) r

theorem ldRSPH (r : Sel) : Statement (.ldRSPH r) := rows_sel (by decide +kernel) r

theorem jpba : Statement .jpba := fun _ => by decide

theorem ldSPL (r : Sel) : Statement (.ldSPL r) := rows_sel (by decide +kernel) r

theorem ldRSPL (r : Sel) : Statement (.ldRSPL r) := rows_sel (by decide +kernel) r

theorem halt : Statement .halt := fun _ => by decide

theorem slp : Statement .slp := fun _ => by decide

theorem nop5 : Statement .nop5 := fun _ => by decide

theorem nop7 : Statement .nop7 := fun _ => by decide

theorem scf : Statement .scf := fun _ => by decide

theorem szf : Statement .szf := fun _ => by decide

theorem sdf : Statement .sdf := fun _ => by decide

theorem ei : Statement .ei := fun _ => by decide

theorem rcf : Statement .rcf := fun _ => by decide

theorem rzf : Statement .rzf := fun _ => by decide

theorem rdf : Statement .rdf := fun _ => by decide

theorem di : Statement .di := fun _ => by decide

theorem incX : Statement .incX := fun _ => by decide

theorem incY : Statement .incY := fun _ => by decide

theorem notA : Statement .notA := fun _ => by decide

theorem notB : Statement .notB := fun _ => by decide

theorem notMX : Statement .notMX := fun _ => by decide

theorem notMY : Statement .notMY := fun _ => by decide

end Sys2Proof.Laws.Encoding
end

