-- ==== Sys2Proof/Laws/Registers.lean ====
section
/-! SUPPORT. What a read and a write of a data address leave alone: every other address, but for the few that a control register
decides (20_memory.md R73, R78, R81, R87). -/

namespace Sys2Proof.Machine

open Sys2Proof.Safety

/-- The data address of a register (20_memory.md R72). -/
def addrOf : IoReg → Nat
  | .ift => 0xF00
  | .ifsw => 0xF01
  | .ifpt => 0xF02
  | .ifsio => 0xF03
  | .ifk0 => 0xF04
  | .ifk1 => 0xF05
  | .eit => 0xF10
  | .eisw => 0xF11
  | .eipt => 0xF12
  | .eisio => 0xF13
  | .eik0 => 0xF14
  | .eik1 => 0xF15
  | .tml => 0xF20
  | .tmh => 0xF21
  | .swl => 0xF22
  | .swh => 0xF23
  | .ptl => 0xF24
  | .pth => 0xF25
  | .rdl => 0xF26
  | .rdh => 0xF27
  | .sdl => 0xF30
  | .sdh => 0xF31
  | .k0 => 0xF40
  | .dfk0 => 0xF41
  | .k1 => 0xF42
  | .r0 => 0xF50
  | .r1 => 0xF51
  | .r2 => 0xF52
  | .r3 => 0xF53
  | .r4 => 0xF54
  | .p0 => 0xF60
  | .p1 => 0xF61
  | .p2 => 0xF62
  | .p3 => 0xF63
  | .ctrlOsc => 0xF70
  | .lcdCtrl => 0xF71
  | .lcdContrast => 0xF72
  | .svd => 0xF73
  | .bzc1 => 0xF74
  | .bzc2 => 0xF75
  | .ctrlTm => 0xF76
  | .ctrlSw => 0xF77
  | .ctrlPt => 0xF78
  | .ptc => 0xF79
  | .sioc => 0xF7A
  | .hzc => 0xF7B
  | .ioc => 0xF7D
  | .pup => 0xF7E

/-- The address of the register at an address is that address. -/
theorem ioRegAt_addr {a : Addr} {r : IoReg} (h : ioRegAt a = some r) : a = BitVec.ofNat 12 (addrOf r) := by
  have key : ∀ a : Addr, (match ioRegAt a with | some r => decide (a = BitVec.ofNat 12 (addrOf r)) | none => true) = true := by
    decide +kernel
  have := key a
  rw [h] at this
  simpa using this

/-- An address that reaches a register is the address of that register. -/
theorem regionOf_io {a : Addr} {r : IoReg} (h : regionOf a = .io r) : a = BitVec.ofNat 12 (addrOf r) := by
  rcases regionOf_cases a with ⟨_, e⟩ | ⟨_, _, e⟩ | ⟨_, _, e⟩ | ⟨_, _, x, e', e⟩ | e <;> rw [h] at e <;> cases e
  exact ioRegAt_addr e'

@[simp] theorem buzzerUpdate_shotActive (p : Params) (b : Bus) : (buzzerUpdate p b).bz.shotActive = b.bz.shotActive := by
  simp only [buzzerUpdate, emitIfChanged]; split <;> (try split) <;> rfl

/-- What a port reads as does not depend on what it has latched. -/
theorem portValue_relatch (p : Params) (io : Io) (n : Fin 4) : portValue p (relatch p io) n = portValue p io n := by
  fin_cases n <;> rfl

@[simp] theorem hiNib_byteOf (h l : Nib) : hiNib (byteOf h l) = h := by revert h l; decide +kernel

@[simp] theorem loNib_byteOf (h l : Nib) : loNib (byteOf h l) = l := by revert h l; decide +kernel

/-- A write to `q` does not change what a read of `r` returns. -/
def Spares (p : Params) (q r : IoReg) (v : Nib) (b : Bus) : Prop :=
  storeChanges (BitVec.ofNat 12 (addrOf q)) (BitVec.ofNat 12 (addrOf r)) = false → ioValue p r (ioWrite p q v b) = ioValue p r b

theorem spares_readOnly {q : IoReg} (hq : q ∈ [.ift, .ifsw, .ifpt, .ifsio, .ifk0, .ifk1, .tml, .tmh, .swl, .swh, .ptl, .pth, .k0, .k1]) (p : Params) (r : IoReg) (v : Nib) (b : Bus) :
    Spares p q r v b := by
  intro _
  simp only [List.mem_cons, List.not_mem_nil, or_false] at hq
  rcases hq with rfl | rfl | rfl | rfl | rfl | rfl | rfl | rfl | rfl | rfl | rfl | rfl | rfl | rfl <;> rfl

theorem spares_r4 (p : Params) (r : IoReg) (v : Nib) (b : Bus) : Spares p .r4 r v b := by
  intro h
  cases r <;> first
    | (exfalso; revert h; decide)
    | (simp [ioWrite, ioValue]; done)
    | (simp [ioWrite, ioValue]; rfl)

theorem spares_bzc1 (p : Params) (r : IoReg) (v : Nib) (b : Bus) : Spares p .bzc1 r v b := by
  intro h
  cases r <;> first
    | (exfalso; revert h; decide)
    | (simp only [ioWrite, bzc1Write, ioValue, buzzerUpdate_shotActive, buzzerUpdate_io] <;> cases v.getLsbD 3 <;> rfl)

theorem spares_bzc2 (p : Params) (r : IoReg) (v : Nib) (b : Bus) : Spares p .bzc2 r v b := by
  intro h
  have hio : ∀ r, r ≠ .bzc2 → ioValue p r (ioWrite p .bzc2 v b) = ioValue p r { b with io := (ioWrite p .bzc2 v b).io } := by
    intro r hr
    cases r <;> first | rfl | exact absurd rfl hr
  have hio2 : (ioWrite p .bzc2 v b).io =
      { b.io with shtpw := v.getLsbD 2, enrtm := v.getLsbD 1, enon := v.getLsbD 0 } := by
    simp only [ioWrite, bzc2Write, buzzerUpdate_io]
    split <;> simp
  cases r <;> first
    | (exfalso; revert h; decide)
    | (rw [hio _ (by decide), hio2]; rfl)

theorem spares_serial {q : IoReg} (hq : q ∈ [.sdl, .sdh]) (p : Params) (r : IoReg) (v : Nib) (b : Bus) : Spares p q r v b := by
  intro h
  simp only [List.mem_cons, List.not_mem_nil, or_false] at hq
  rcases hq with rfl | rfl <;> cases r <;> first
    | (exfalso; revert h; decide)
    | (simp only [ioWrite, serialEmit, ioValue] <;> split <;> first | rfl | exact hiNib_byteOf _ _ | exact loNib_byteOf _ _)

theorem spares_groupA {q : IoReg} (hq : q ∈ [.eit, .eisw, .eipt, .eisio, .eik0]) (p : Params) (r : IoReg) (v : Nib) (b : Bus) :
    Spares p q r v b := by
  intro h
  simp only [List.mem_cons, List.not_mem_nil, or_false] at hq
  rcases hq with rfl | rfl | rfl | rfl | rfl <;> cases r <;> first
    | rfl
    | (exfalso; revert h; decide)

theorem spares_groupB {q : IoReg} (hq : q ∈ [.eik1, .rdl, .rdh, .dfk0, .r0]) (p : Params) (r : IoReg) (v : Nib) (b : Bus) :
    Spares p q r v b := by
  intro h
  simp only [List.mem_cons, List.not_mem_nil, or_false] at hq
  rcases hq with rfl | rfl | rfl | rfl | rfl <;> cases r <;> first
    | rfl
    | (exfalso; revert h; decide)
    | exact hiNib_byteOf _ _
    | exact loNib_byteOf _ _

theorem spares_groupC {q : IoReg} (hq : q ∈ [.r1, .r2, .r3, .p0, .p1]) (p : Params) (r : IoReg) (v : Nib) (b : Bus) :
    Spares p q r v b := by
  intro h
  simp only [List.mem_cons, List.not_mem_nil, or_false] at hq
  rcases hq with rfl | rfl | rfl | rfl | rfl <;> cases r <;> first
    | rfl
    | (exfalso; revert h; decide)

theorem spares_groupD {q : IoReg} (hq : q ∈ [.p2, .p3, .ctrlOsc, .lcdCtrl, .lcdContrast]) (p : Params) (r : IoReg) (v : Nib) (b : Bus) :
    Spares p q r v b := by
  intro h
  simp only [List.mem_cons, List.not_mem_nil, or_false] at hq
  rcases hq with rfl | rfl | rfl | rfl | rfl <;> cases r <;> first
    | rfl
    | (exfalso; revert h; decide)

theorem spares_groupE {q : IoReg} (hq : q ∈ [.svd, .ctrlTm, .ctrlSw, .ctrlPt, .ptc]) (p : Params) (r : IoReg) (v : Nib) (b : Bus) :
    Spares p q r v b := by
  intro h
  simp only [List.mem_cons, List.not_mem_nil, or_false] at hq
  rcases hq with rfl | rfl | rfl | rfl | rfl <;> cases r <;> first
    | rfl
    | (exfalso; revert h; decide)

theorem spares_groupF {q : IoReg} (hq : q ∈ [.sioc, .hzc, .ioc, .pup]) (p : Params) (r : IoReg) (v : Nib) (b : Bus) :
    Spares p q r v b := by
  intro h
  simp only [List.mem_cons, List.not_mem_nil, or_false] at hq
  rcases hq with rfl | rfl | rfl | rfl <;> cases r <;> first
    | rfl
    | (exfalso; revert h; decide)

/-- A write to a register changes what a read of another returns only where `storeChanges` says so (20_memory.md R78, R81). -/
theorem ioValue_ioWrite_other (p : Params) (q r : IoReg) (v : Nib) (b : Bus)
    (h : storeChanges (BitVec.ofNat 12 (addrOf q)) (BitVec.ofNat 12 (addrOf r)) = false) :
    ioValue p r (ioWrite p q v b) = ioValue p r b := by
  revert h
  show Spares p q r v b
  cases q
  case ift => exact spares_readOnly (by simp) p r v b
  case ifsw => exact spares_readOnly (by simp) p r v b
  case ifpt => exact spares_readOnly (by simp) p r v b
  case ifsio => exact spares_readOnly (by simp) p r v b
  case ifk0 => exact spares_readOnly (by simp) p r v b
  case ifk1 => exact spares_readOnly (by simp) p r v b
  case eit => exact spares_groupA (by simp) p r v b
  case eisw => exact spares_groupA (by simp) p r v b
  case eipt => exact spares_groupA (by simp) p r v b
  case eisio => exact spares_groupA (by simp) p r v b
  case eik0 => exact spares_groupA (by simp) p r v b
  case eik1 => exact spares_groupB (by simp) p r v b
  case tml => exact spares_readOnly (by simp) p r v b
  case tmh => exact spares_readOnly (by simp) p r v b
  case swl => exact spares_readOnly (by simp) p r v b
  case swh => exact spares_readOnly (by simp) p r v b
  case ptl => exact spares_readOnly (by simp) p r v b
  case pth => exact spares_readOnly (by simp) p r v b
  case rdl => exact spares_groupB (by simp) p r v b
  case rdh => exact spares_groupB (by simp) p r v b
  case sdl => exact spares_serial (by simp) p r v b
  case sdh => exact spares_serial (by simp) p r v b
  case k0 => exact spares_readOnly (by simp) p r v b
  case dfk0 => exact spares_groupB (by simp) p r v b
  case k1 => exact spares_readOnly (by simp) p r v b
  case r0 => exact spares_groupB (by simp) p r v b
  case r1 => exact spares_groupC (by simp) p r v b
  case r2 => exact spares_groupC (by simp) p r v b
  case r3 => exact spares_groupC (by simp) p r v b
  case r4 => exact spares_r4 p r v b
  case p0 => exact spares_groupC (by simp) p r v b
  case p1 => exact spares_groupC (by simp) p r v b
  case p2 => exact spares_groupD (by simp) p r v b
  case p3 => exact spares_groupD (by simp) p r v b
  case ctrlOsc => exact spares_groupD (by simp) p r v b
  case lcdCtrl => exact spares_groupD (by simp) p r v b
  case lcdContrast => exact spares_groupD (by simp) p r v b
  case svd => exact spares_groupE (by simp) p r v b
  case bzc1 => exact spares_bzc1 p r v b
  case bzc2 => exact spares_bzc2 p r v b
  case ctrlTm => exact spares_groupE (by simp) p r v b
  case ctrlSw => exact spares_groupE (by simp) p r v b
  case ctrlPt => exact spares_groupE (by simp) p r v b
  case ptc => exact spares_groupE (by simp) p r v b
  case sioc => exact spares_groupF (by simp) p r v b
  case hzc => exact spares_groupF (by simp) p r v b
  case ioc => exact spares_groupF (by simp) p r v b
  case pup => exact spares_groupF (by simp) p r v b

/-- A read acknowledges only the factor-flag register it reads (20_memory.md R73). -/
theorem ioValue_ioAck (q r : IoReg) (p : Params) (b : Bus) (h : q ≠ r ∨ isFactorAddr (BitVec.ofNat 12 (addrOf r)) = false) :
    ioValue p r (ioAck q b) = ioValue p r b := by
  cases q
  case ift => cases r <;> first | rfl | (exfalso; revert h; decide)
  case ifsw => cases r <;> first | rfl | (exfalso; revert h; decide)
  case ifpt => cases r <;> first | rfl | (exfalso; revert h; decide)
  case ifsio => cases r <;> first | rfl | (exfalso; revert h; decide)
  case ifk0 => cases r <;> first | rfl | (exfalso; revert h; decide)
  case ifk1 => cases r <;> first | rfl | (exfalso; revert h; decide)
  all_goals rfl

/-- What a read of `q` changes of the reads of other addresses: nothing (20_memory.md R73, R87). -/
theorem peek_ack (p : Params) (a q : Addr) (b : Bus) (h : a ≠ q ∨ isFactorAddr a = false) :
    peek p a (Machine.ack q b) = peek p a b := by
  unfold peek
  cases ha : regionOf a with
  | ram i => simp
  | vram i => simp
  | unmapped => rfl
  | io r =>
    cases hq : regionOf q with
    | io r' =>
      simp only [Machine.ack, hq]
      have e1 := regionOf_io ha
      have e2 := regionOf_io hq
      apply ioValue_ioAck
      rcases h with h | h
      · left; rintro rfl; exact h (e1.trans e2.symm)
      · right; rw [← e1]; exact h
    | _ => simp only [Machine.ack, hq]

/-- What a write of `w` changes of the reads of other addresses: only what `storeChanges` names (20_memory.md R78, R81). -/
theorem peek_write (p : Params) (a w : Addr) (v : Nib) (b : Bus) (h : storeChanges w a = false) :
    peek p a (busWrite p w v b) = peek p a b := by
  have hne : a ≠ w := by rintro rfl; simp [storeChanges] at h
  unfold peek busWrite
  cases ha : regionOf a with
  | unmapped => rfl
  | ram i =>
    cases hw : regionOf w with
    | ram j =>
      have h1 := regionOf_ram_lt ha; have h2 := regionOf_ram_lt hw
      exact Memory.read_write_other _ _ (by rw [h1.2, h2.2]; intro e; exact hne (BitVec.eq_of_toNat_eq e))
    | _ => simp [vramWrite]
  | vram i =>
    cases hw : regionOf w with
    | vram j =>
      refine Memory.read_write_other _ _ ?_
      have h1 := regionOf_vram_inv ha
      have h2 := regionOf_vram_inv hw
      intro e
      exact hne (BitVec.eq_of_toNat_eq (by omega))
    | _ => simp
  | io r =>
    cases hq : regionOf w with
    | io r' =>
      have e1 := regionOf_io ha
      have e2 := regionOf_io hq
      apply ioValue_ioWrite_other; rw [← e1, ← e2]; exact h
    | ram j => show ioValue p r _ = _; cases r <;> rfl
    | vram j => show ioValue p r _ = _; cases r <;> rfl
    | unmapped => rfl

end Sys2Proof.Machine
end

