-- ==== Sys2Proof/Laws/Ticks.lean ====
section
/-! SUPPORT. What each part of an oscillator tick reads and changes: two states that agree on what a part reads get the same new
values of its fields, and the part leaves every other field alone (60_exceptions.md R322). -/

namespace Sys2Proof.Machine

/-! ## The timers -/

/-- The main timer reads and changes its residual, TM, IFT and its tick count only (60_exceptions.md R330). -/
theorem mainTimerTick_local (p : Params) (b b' : Bus) (hr : b'.clk.tmResidual = b.clk.tmResidual) (ht : b'.io.tm = b.io.tm)
    (hf : b'.io.ift = b.io.ift) (hc : b'.clk.tmTicks = b.clk.tmTicks) :
    mainTimerTick p b' =
      { b' with
        clk := { b'.clk with tmResidual := (mainTimerTick p b).clk.tmResidual, tmTicks := (mainTimerTick p b).clk.tmTicks }
        io := { b'.io with tm := (mainTimerTick p b).io.tm, ift := (mainTimerTick p b).io.ift } } := by
  simp only [mainTimerTick, hr, ht, hf, hc]
  split <;> simp [← ht, ← hf, ← hc]

/-- The stopwatch reads its run bit and reads and changes its residual, digits, flags and tick count only (60_exceptions.md R335). -/
theorem stopwatchTick_local (p : Params) (b b' : Bus) (hr : b'.clk.swResidual = b.clk.swResidual)
    (hw : b'.io.swrun = b.io.swrun) (hl : b'.io.swl = b.io.swl) (hh : b'.io.swh = b.io.swh) (hf : b'.io.ifsw = b.io.ifsw)
    (hc : b'.clk.swTicks = b.clk.swTicks) :
    stopwatchTick p b' =
      { b' with
        clk := { b'.clk with swResidual := (stopwatchTick p b).clk.swResidual, swTicks := (stopwatchTick p b).clk.swTicks }
        io := { b'.io with
          swl := (stopwatchTick p b).io.swl
          swh := (stopwatchTick p b).io.swh
          ifsw := (stopwatchTick p b).io.ifsw } } := by
  simp only [stopwatchTick, stopwatchCount, hr, hw, hl, hh, hf, hc]
  split_ifs <;> simp [← hw, ← hl, ← hh, ← hf, ← hc]

/-- The programmable timer reads its divider select, run bit and reload data, and reads and changes its residual, counter and flag
only (60_exceptions.md R342). -/
theorem progTimerTick_local (p : Params) (b b' : Bus) (hr : b'.clk.ptResidual = b.clk.ptResidual) (hd : b'.io.ptc = b.io.ptc)
    (hw : b'.io.ptrun = b.io.ptrun) (ht : b'.io.pt = b.io.pt) (hl : b'.io.rd = b.io.rd) (hf : b'.io.ipt = b.io.ipt) :
    progTimerTick p b' =
      { b' with
        clk := { b'.clk with ptResidual := (progTimerTick p b).clk.ptResidual }
        io := { b'.io with pt := (progTimerTick p b).io.pt, ipt := (progTimerTick p b).io.ipt } } := by
  have h : ptDivider p b'.io = ptDivider p b.io := by simp only [ptDivider, hd]
  unfold progTimerTick
  rw [h]
  cases ptDivider p b.io with
  | none => simp [← hr, ← ht, ← hf]
  | some d =>
    simp only [progTimerCount, hr, hw, ht, hl]
    split_ifs <;> simp [← hw, ← ht, ← hl, ← hf]

/-! ## The buzzer

Each part of a buzzer tick takes the buzzer's own state and the events from `b`, and the control bits from registers that agree with
those of `b`; the rest of the state passes through. -/

/-- Two I/O states agree on the bits the buzzer reads (60_exceptions.md R350). -/
def SameBuzzerBits (x y : Io) : Prop := x.r4 = y.r4 ∧ x.enon = y.enon ∧ x.enrtm = y.enrtm ∧ x.bzfq = y.bzfq

theorem shotTick_local (io : Io) (b : Bus) (m v : Memory) (clk : ClockNet) (g : Nat) :
    shotTick ⟨m, v, io, clk, b.bz, g, b.events⟩ = ⟨m, v, io, clk, (shotTick b).bz, g, (shotTick b).events⟩ := by
  simp only [shotTick]
  split <;> rfl

@[simp] theorem shotTick_same_io (b : Bus) : (shotTick b).io = b.io := by
  simp only [shotTick]
  split <;> rfl

@[simp] theorem envTick_same_io (p : Params) (b : Bus) : (envTick p b).io = b.io := by
  simp only [envTick]
  split
  · split <;> rfl
  · rfl

theorem envTick_local (p : Params) (io : Io) (b : Bus) (m v : Memory) (clk : ClockNet) (g : Nat) (h : SameBuzzerBits io b.io) :
    envTick p ⟨m, v, io, clk, b.bz, g, b.events⟩ = ⟨m, v, io, clk, (envTick p b).bz, g, (envTick p b).events⟩ := by
  obtain ⟨hr, hn, ht, -⟩ := h
  simp only [envTick, buzzerRequest, tone, hr, hn]
  split
  · split
    · simp only [envStep, ht]
    · rfl
  · rfl

theorem emitIfChanged_local (p : Params) (io : Io) (b : Bus) (m v : Memory) (clk : ClockNet) (g : Nat)
    (h : SameBuzzerBits io b.io) :
    emitIfChanged p ⟨m, v, io, clk, b.bz, g, b.events⟩ = ⟨m, v, io, clk, (emitIfChanged p b).bz, g, (emitIfChanged p b).events⟩ := by
  obtain ⟨hr, hn, -, hf⟩ := h
  have he : buzzerEvent p ⟨m, v, io, clk, b.bz, g, b.events⟩ = buzzerEvent p b := by
    simp only [buzzerEvent, buzzerRequest, tone, buzzerGain, buzzerHz, hr, hn, hf]
    rfl
  unfold emitIfChanged
  rw [he]
  dsimp only
  split <;> rfl

theorem buzzerUpdate_local (p : Params) (io : Io) (b : Bus) (m v : Memory) (clk : ClockNet) (g : Nat)
    (h : SameBuzzerBits io b.io) :
    buzzerUpdate p ⟨m, v, io, clk, b.bz, g, b.events⟩ = ⟨m, v, io, clk, (buzzerUpdate p b).bz, g, (buzzerUpdate p b).events⟩ := by
  have hq : buzzerRequest p ⟨m, v, io, clk, b.bz, g, b.events⟩ = buzzerRequest p b := by simp only [buzzerRequest, tone, h.1]
  unfold buzzerUpdate
  rw [hq]
  dsimp only
  cases (buzzerRequest p b && !b.bz.prevRequest)
  · exact emitIfChanged_local p io { b with bz := { b.bz with prevRequest := buzzerRequest p b } } m v clk g h
  · simp only [envRestart, envStep, h.2.2.1]
    exact emitIfChanged_local p io
      { envRestart p b with bz := { (envRestart p b).bz with prevRequest := buzzerRequest p b } } m v clk g h

/-- A buzzer tick reads the buzzer's control bits, and reads and changes the buzzer's own state and the events only
(60_exceptions.md R355). -/
theorem buzzerTick_local (p : Params) (b b' : Bus) (hz : b'.bz = b.bz) (he : b'.events = b.events) (h : SameBuzzerBits b'.io b.io) :
    buzzerTick p b' = { b' with bz := (buzzerTick p b).bz, events := (buzzerTick p b).events } := by
  obtain ⟨m, v, io, clk, bz, g, ev⟩ := b'
  simp only at hz he h
  subst hz he
  simp only [buzzerTick, shotTick_local io b]
  rw [envTick_local p io (shotTick b) m v clk g (by simpa using h),
    buzzerUpdate_local p io (envTick p (shotTick b)) m v clk g (by simpa using h)]

end Sys2Proof.Machine
end

