-- ==== Sys2Proof/Tests/Slice0.lean ====
section
/-! SUPPORT. Tests: the check of WellFormed on ill-formed terms, words written out from the opcode map, one step of each instruction, a few
steps of the machine, and a witness for the hypotheses of every statement. Expected values come from the spec: the vectors of
95_test_vectors.md where a docstring names one, else by hand from the rule it names. -/

namespace Sys2Proof.Tests

set_option Elab.async false

open Sys2Proof.Machine Sys2Proof.Safety

/-! ## Small states -/

/-- The core after reset. -/
def start : Cpu := Cpu.reset defaultParams

/-- The reset state with a core and some RAM cells, by rising address, none of them 0. -/
def at0 (c : Cpu) (ram : Memory) : State := { State.reset with cpu := c, bus := { State.reset.bus with ram := ram } }

/-- A state with other I/O registers. -/
def withIo (io : Io) (s : State) : State := { s with bus := { s.bus with io := io } }

/-- A state with the clock-timer factor flags set. -/
def withIft (v : Nib) (s : State) : State := withIo { s.bus.io with ift := v } s

/-- The state after one instruction. -/
def ran (i : Instr) (s : State) : State :=
  match exec i s with
  | .next t => t
  | .fault _ => s
  | .refused _ => s

/-- The nibble a read of a data address returns. -/
def cell (a : Nat) (s : State) : Nib := peek s.params (BitVec.ofNat 12 a) s.bus

/-- The state after the step that runs the opcode `op`. -/
def stepped (op : Nat) (s : State) : State := after (s.withFetchWord 16 op)

/-- Whether a step answers a next state. -/
def goesOn (s : State) : Bool :=
  match step s with
  | .next _ => true
  | .fault _ => false
  | .refused _ => false

/-- The state after a write to a data address. -/
def wrote (a v : Nat) (s : State) : State := memWrite (BitVec.ofNat 12 a) (BitVec.ofNat 4 v) s

/-- A step that goes on answers `after`. -/
theorem step_eq_after {s : State} (h : goesOn s = true) : step s = .next (after s) := by
  unfold goesOn at h
  unfold after
  cases hs : step s with
  | next t => rfl
  | fault r => rw [hs] at h; cases h
  | refused r => rw [hs] at h; cases h

/-- An instruction answers `ran`. -/
theorem exec_eq_ran (i : Instr) (s : State) : exec i s = .next (ran i s) := by
  cases i <;> rfl

/-! ## Well-formedness -/

/-- 30_encoding.md R134: `undefined` with a defined value is ill-formed, at the neighbours of every range of R134. -/
theorem test_wf_refuses :
    ∀ n ∈ [0x000, 0xAF0, 0xAF5, 0xAFA, 0xAFF, 0xE9B, 0xEA0, 0xEAB, 0xEB0, 0xEBB, 0xEC0, 0xECF, 0xEE0, 0xF1F, 0xF28, 0xF2F, 0xF38, 0xFCB,
      0xFD0, 0xFDB, 0xFDE, 0xFE8, 0xFF0, 0xFF9, 0xFFB, 0xFFF], (Instr.undefined (BitVec.ofNat 12 n)).wf = false := by
  decide +kernel

/-- 30_encoding.md R134: the first and the last value of every undefined range is well-formed in `undefined`. -/
theorem test_wf_accepts :
    ∀ n ∈ [0xAF1, 0xAF4, 0xAF6, 0xAF9, 0xAFB, 0xAFE, 0xE9C, 0xE9F, 0xEAC, 0xEAF, 0xEBC, 0xEBF, 0xED0, 0xEDF, 0xF20, 0xF27, 0xF30, 0xF37,
      0xFCC, 0xFCF, 0xFDC, 0xFDD, 0xFE9, 0xFEF, 0xFFA, 0xFFC, 0xFFE], (Instr.undefined (BitVec.ofNat 12 n)).wf = true := by
  decide +kernel

/-! ## Decoding: words written out from 30_encoding.md R131 and R133 -/

/-- Branch, call and return: the opcode byte, then `s` or `e`. -/
theorem test_decode_branch :
    decode 0x045#12 = .jp 0x45#8 ∧ decode 0x15A#12 = .retd 0x5A#8 ∧ decode 0x208#12 = .jpC 0x08#8 ∧ decode 0x3F1#12 = .jpNC 0xF1#8 ∧
      decode 0x410#12 = .call 0x10#8 ∧ decode 0x5FE#12 = .calz 0xFE#8 ∧ decode 0x600#12 = .jpZ 0x00#8 ∧
      decode 0x7FF#12 = .jpNZ 0xFF#8 ∧ decode 0xE53#12 = .pset 0x13#5 ∧ decode 0xE40#12 = .pset 0x00#5 ∧
      decode 0xE5F#12 = .pset 0x1F#5 ∧ decode 0xFE8#12 = .jpba ∧ decode 0xFDE#12 = .rets ∧ decode 0xFDF#12 = .ret := by
  decide +kernel

/-- Index registers. -/
theorem test_decode_index :
    decode 0x8C3#12 = .ldY 0xC3#8 ∧ decode 0xB13#12 = .ldX 0x13#8 ∧ decode 0xA07#12 = .adcXH 0x7#4 ∧ decode 0xA11#12 = .adcXL 0x1#4 ∧
      decode 0xA29#12 = .adcYH 0x9#4 ∧ decode 0xA3F#12 = .adcYL 0xF#4 ∧ decode 0xA43#12 = .cpXH 0x3#4 ∧
      decode 0xA52#12 = .cpXL 0x2#4 ∧ decode 0xA6E#12 = .cpYH 0xE#4 ∧ decode 0xA75#12 = .cpYL 0x5#4 ∧ decode 0xE80#12 = .ldXP .a ∧
      decode 0xE85#12 = .ldXH .b ∧ decode 0xE8A#12 = .ldXL .mx ∧ decode 0xE91#12 = .ldYP .b ∧ decode 0xE96#12 = .ldYH .mx ∧
      decode 0xE9B#12 = .ldYL .my ∧ decode 0xEA1#12 = .ldRXP .b ∧ decode 0xEA4#12 = .ldRXH .a ∧ decode 0xEAB#12 = .ldRXL .my ∧
      decode 0xEB0#12 = .ldRYP .a ∧ decode 0xEB6#12 = .ldRYH .mx ∧ decode 0xEB9#12 = .ldRYL .b := by
  decide +kernel

/-- Transfers. -/
theorem test_decode_transfer :
    decode 0xE09#12 = .ldRI .a 0x9#4 ∧ decode 0xE3C#12 = .ldRI .my 0xC#4 ∧ decode 0xEC4#12 = .ldRQ .b .a ∧
      decode 0xECE#12 = .ldRQ .my .mx ∧ decode 0xFA5#12 = .ldAM 0x5#4 ∧ decode 0xFBF#12 = .ldBM 0xF#4 ∧
      decode 0xF80#12 = .ldMA 0x0#4 ∧ decode 0xF91#12 = .ldMB 0x1#4 ∧ decode 0xE67#12 = .ldpxI 0x7#4 ∧
      decode 0xE71#12 = .ldpyI 0x1#4 ∧ decode 0xEEB#12 = .ldpxRQ .mx .my ∧ decode 0xEF7#12 = .ldpyRQ .b .my ∧
      decode 0x9A5#12 = .lbpx 0xA5#8 := by
  decide +kernel

/-- Flags and stack. -/
theorem test_decode_flags_stack :
    decode 0xF46#12 = .setF 0x6#4 ∧ decode 0xF59#12 = .rstF 0x9#4 ∧ decode 0xFC2#12 = .push .mx ∧ decode 0xFC4#12 = .pushXP ∧
      decode 0xFC5#12 = .pushXH ∧ decode 0xFC6#12 = .pushXL ∧ decode 0xFC7#12 = .pushYP ∧ decode 0xFC8#12 = .pushYH ∧
      decode 0xFC9#12 = .pushYL ∧ decode 0xFCA#12 = .pushF ∧ decode 0xFCB#12 = .decSP ∧ decode 0xFD3#12 = .pop .my ∧
      decode 0xFD4#12 = .popXP ∧ decode 0xFD5#12 = .popXH ∧ decode 0xFD6#12 = .popXL ∧ decode 0xFD7#12 = .popYP ∧
      decode 0xFD8#12 = .popYH ∧ decode 0xFD9#12 = .popYL ∧ decode 0xFDA#12 = .popF ∧ decode 0xFDB#12 = .incSP ∧
      decode 0xFE1#12 = .ldSPH .b ∧ decode 0xFE6#12 = .ldRSPH .mx ∧ decode 0xFF3#12 = .ldSPL .my ∧ decode 0xFF4#12 = .ldRSPL .a := by
  decide +kernel

/-- Arithmetic, logic, compare and rotate. -/
theorem test_decode_arith :
    decode 0xC0F#12 = .addRI .a 0xF#4 ∧ decode 0xC60#12 = .adcRI .mx 0x0#4 ∧ decode 0xC89#12 = .andRI .a 0x9#4 ∧
      decode 0xCD0#12 = .orRI .b 0x0#4 ∧ decode 0xD23#12 = .xorRI .mx 0x3#4 ∧ decode 0xD50#12 = .sbcRI .b 0x0#4 ∧
      decode 0xDA1#12 = .fanRI .mx 0x1#4 ∧ decode 0xDF4#12 = .cpRI .my 0x4#4 ∧ decode 0xA82#12 = .addRQ .a .mx ∧
      decode 0xA91#12 = .adcRQ .a .b ∧ decode 0xAA5#12 = .subRQ .b .b ∧ decode 0xABC#12 = .sbcRQ .my .a ∧
      decode 0xAC1#12 = .andRQ .a .b ∧ decode 0xADB#12 = .orRQ .mx .my ∧ decode 0xAE0#12 = .xorRQ .a .a ∧ decode 0xF04#12 = .cpRQ .b .a ∧
      decode 0xF1E#12 = .fanRQ .my .mx ∧ decode 0xAF0#12 = .rlc .a ∧ decode 0xAF5#12 = .rlc .b ∧ decode 0xAFA#12 = .rlc .mx ∧
      decode 0xAFF#12 = .rlc .my ∧ decode 0xE8D#12 = .rrc .b ∧ decode 0xF63#12 = .incM 0x3#4 ∧ decode 0xF7C#12 = .decM 0xC#4 ∧
      decode 0xF28#12 = .acpx .a ∧ decode 0xF2D#12 = .acpy .b ∧ decode 0xF3A#12 = .scpx .mx ∧ decode 0xF3F#12 = .scpy .my := by
  decide +kernel

/-- System and undefined values. -/
theorem test_decode_system :
    decode 0xFF8#12 = .halt ∧ decode 0xFF9#12 = .slp ∧ decode 0xFFB#12 = .nop5 ∧ decode 0xFFF#12 = .nop7 ∧
      decode 0xFFA#12 = .undefined 0xFFA#12 ∧ decode 0xAF1#12 = .undefined 0xAF1#12 ∧ decode 0xED7#12 = .undefined 0xED7#12 ∧
      decode 0xF22#12 = .undefined 0xF22#12 := by
  decide +kernel

/-- 95_test_vectors.md W3: the last value of a range and the first of the next. -/
theorem test_decode_edges :
    decode 0xE83#12 = .ldXP .my ∧ decode 0xE84#12 = .ldXH .a ∧ decode 0xE8B#12 = .ldXL .my ∧ decode 0xE8C#12 = .rrc .a ∧
      decode 0xFC3#12 = .push .my ∧ decode 0xFD3#12 = .pop .my ∧ decode 0xFE3#12 = .ldSPH .my ∧ decode 0xFE4#12 = .ldRSPH .a ∧
      decode 0xFF3#12 = .ldSPL .my ∧ decode 0xFF7#12 = .ldRSPL .my ∧ decode 0xFF8#12 = .halt := by
  decide +kernel

/-- The host's way to the decoder: 12 bits of a 16-bit row; a value above the table's is none (notes/assumptions/13.md). -/
theorem test_decodeTableWord :
    decodeTableWord 16 0xE09 = some (.ldRI .a 0x9#4) ∧ decodeTableWord 16 0xFFF = some .nop7 ∧ decodeTableWord 16 0x1000 = none := by
  decide +kernel

/-! ## One instruction each -/

/-- 95_test_vectors.md V-BR1: `JP 0x45`. -/
theorem test_br1_jp :
    let t := ran (decode 0x045#12) (at0 { start with pc := 0x123#13, npc := 0x123#13 } [])
    t.cpu.pc = 0x145#13 ∧ t.cost = 5 := by
  decide +kernel

/-- 95_test_vectors.md V-BR3: `PSET 0x13`. -/
theorem test_br3_pset :
    let t := ran (decode 0xe53#12) (at0 { start with pc := 0x010#13, npc := 0x010#13 } [])
    t.cpu.pc = 0x011#13 ∧ t.cpu.npc = 0x1311#13 ∧ t.cost = 5 := by
  decide +kernel

/-- 95_test_vectors.md V-BR6: `JP C,0x08 taken`. -/
theorem test_br6_jpC :
    let t := ran (decode 0x208#12) (at0 { start with pc := 0x020#13, npc := 0x020#13, fC := true } [])
    t.cpu.pc = 0x008#13 ∧ t.cost = 5 := by
  decide +kernel

/-- 95_test_vectors.md V-BR7: `JP C,0x08 not taken`. -/
theorem test_br7_jpC :
    let t := ran (decode 0x208#12) (at0 { start with pc := 0x020#13, npc := 0x020#13, fC := false } [])
    t.cpu.pc = 0x021#13 ∧ t.cost = 5 := by
  decide +kernel

/-- 95_test_vectors.md V-BR9: `JP NC,0x08 with C=1`. -/
theorem test_br9_jpNC :
    let t := ran (decode 0x308#12) (at0 { start with pc := 0x020#13, npc := 0x020#13, fC := true } [])
    t.cpu.pc = 0x021#13 := by
  decide +kernel

/-- 95_test_vectors.md V-BR10: `JP NC,0x08 with C=0`. -/
theorem test_br10_jpNC :
    let t := ran (decode 0x308#12) (at0 { start with pc := 0x020#13, npc := 0x020#13, fC := false } [])
    t.cpu.pc = 0x008#13 := by
  decide +kernel

/-- 95_test_vectors.md V-BR11: `JP Z,0x00 with Z=1`. -/
theorem test_br11_jpZ :
    let t := ran (decode 0x600#12) (at0 { start with pc := 0x040#13, npc := 0x040#13, fZ := true } [])
    t.cpu.pc = 0x000#13 := by
  decide +kernel

/-- 95_test_vectors.md V-BR12: `JP Z,0x00 with Z=0`. -/
theorem test_br12_jpZ :
    let t := ran (decode 0x600#12) (at0 { start with pc := 0x040#13, npc := 0x040#13, fZ := false } [])
    t.cpu.pc = 0x041#13 := by
  decide +kernel

/-- 95_test_vectors.md V-BR13: `JP NZ,0x02 with Z=0`. -/
theorem test_br13_jpNZ :
    let t := ran (decode 0x702#12) (at0 { start with pc := 0x004#13, npc := 0x004#13, fZ := false } [])
    t.cpu.pc = 0x002#13 := by
  decide +kernel

/-- 95_test_vectors.md V-BR14: `JP NZ,0x02 with Z=1`. -/
theorem test_br14_jpNZ :
    let t := ran (decode 0x702#12) (at0 { start with pc := 0x004#13, npc := 0x004#13, fZ := true } [])
    t.cpu.pc = 0x005#13 := by
  decide +kernel

/-- 95_test_vectors.md V-BR15: `JPBA`. -/
theorem test_br15_jpba :
    let t := ran (decode 0xfe8#12) (at0 { start with pc := 0x230#13, npc := 0x230#13, a := 0x5#4, b := 0xc#4 } [])
    t.cpu.pc = 0x2c5#13 ∧ t.cost = 5 := by
  decide +kernel

/-- 95_test_vectors.md V-BR17: `CALL 0x10`. -/
theorem test_br17_call :
    let t := ran (decode 0x410#12) (at0 { start with pc := 0x000#13, npc := 0x000#13, sp := 0x00#8 } [])
    t.cpu.pc = 0x010#13 ∧ t.cpu.sp = 0xfd#8 ∧ cell 0x0ff t = 0x0#4 ∧ cell 0x0fe t = 0x0#4 ∧ cell 0x0fd t = 0x1#4 ∧ t.cost = 7 := by
  decide +kernel

/-- 95_test_vectors.md V-BR18: `CALL 0x10 with SP=0x01`. -/
theorem test_br18_call :
    let t := ran (decode 0x410#12) (at0 { start with pc := 0x234#13, npc := 0x234#13, sp := 0x01#8 } [])
    t.cpu.pc = 0x210#13 ∧ t.cpu.sp = 0xfe#8 ∧ cell 0x000 t = 0x2#4 ∧ cell 0x0ff t = 0x3#4 ∧ cell 0x0fe t = 0x5#4 := by
  decide +kernel

/-- 95_test_vectors.md V-BR21: `CALZ 0x20`. -/
theorem test_br21_calz :
    let t := ran (decode 0x520#12) (at0 { start with pc := 0x345#13, npc := 0x345#13, sp := 0x40#8 } [])
    t.cpu.pc = 0x020#13 ∧ t.cpu.sp = 0x3d#8 ∧ cell 0x03f t = 0x3#4 ∧ cell 0x03e t = 0x4#4 ∧ cell 0x03d t = 0x6#4 ∧ t.cost = 7 := by
  decide +kernel

/-- 95_test_vectors.md V-BR23: `RET`. -/
theorem test_br23_ret :
    let t := ran (decode 0xfdf#12) (at0 { start with pc := 0x013#13, npc := 0x013#13, sp := 0xfd#8 } [(0x0fd, 0x1#4)])
    t.cpu.pc = 0x001#13 ∧ t.cpu.sp = 0x00#8 ∧ t.cost = 7 := by
  decide +kernel

/-- 95_test_vectors.md V-BR24: `RET in bank 1`. -/
theorem test_br24_ret :
    let t := ran (decode 0xfdf#12) (at0 { start with pc := 0x1013#13, npc := 0x1013#13, sp := 0xfd#8 } [(0x0fd, 0x1#4)])
    t.cpu.pc = 0x1001#13 ∧ t.cpu.sp = 0x00#8 := by
  decide +kernel

/-- 95_test_vectors.md V-BR26: `RETS`. -/
theorem test_br26_rets :
    let t := ran (decode 0xfde#12) (at0 { start with pc := 0x013#13, npc := 0x013#13, sp := 0xfd#8 } [(0x0fd, 0x1#4)])
    t.cpu.pc = 0x002#13 ∧ t.cpu.sp = 0x00#8 ∧ t.cost = 12 := by
  decide +kernel

/-- 95_test_vectors.md V-BR27: `RETD 0x5A`. -/
theorem test_br27_retd :
    let t := ran (decode 0x15a#12)
      (at0 { start with pc := 0x013#13, npc := 0x013#13, sp := 0xfd#8, xp := 0x0#4, xh := 0x2#4, xl := 0x0#4 } [(0x0fd, 0x1#4)])
    t.cpu.pc = 0x001#13 ∧ t.cpu.sp = 0x00#8 ∧ cell 0x020 t = 0xa#4 ∧ cell 0x021 t = 0x5#4 ∧ t.cpu.ix = 0x022#12 ∧ t.cost = 12 := by
  decide +kernel

/-- 95_test_vectors.md V-BR28: `RETD 0x21 with X=0xFF`. -/
theorem test_br28_retd :
    let t := ran (decode 0x121#12)
      (at0 { start with pc := 0x013#13, npc := 0x013#13, sp := 0xfd#8, xp := 0x1#4, xh := 0xf#4, xl := 0xf#4 } [(0x0fd, 0x1#4)])
    cell 0x1ff t = 0x1#4 ∧ cell 0x100 t = 0x2#4 ∧ t.cpu.ix = 0x101#12 := by
  decide +kernel

/-- 95_test_vectors.md V-SY1: `NOP5`. -/
theorem test_sy1_nop5 :
    let t := ran (decode 0xffb#12) (at0 { start with pc := 0x100#13, npc := 0x100#13 } [])
    t.cpu.pc = 0x101#13 ∧ t.cost = 5 := by
  decide +kernel

/-- 95_test_vectors.md V-SY2: `NOP7`. -/
theorem test_sy2_nop7 :
    let t := ran (decode 0xfff#12) (at0 { start with pc := 0x100#13, npc := 0x100#13 } [])
    t.cpu.pc = 0x101#13 ∧ t.cost = 7 := by
  decide +kernel

/-- 95_test_vectors.md V-SY5: `HALT`. -/
theorem test_sy5_halt :
    let t := ran (decode 0xff8#12) (at0 { start with pc := 0x004#13, npc := 0x004#13 } [])
    t.cpu.pc = 0x005#13 ∧ t.cpu.halt = true ∧ t.cost = 5 := by
  decide +kernel

/-- 95_test_vectors.md V-SY6: `SLP`. -/
theorem test_sy6_slp :
    let t := ran (decode 0xff9#12) (at0 { start with pc := 0x004#13, npc := 0x004#13 } [])
    t.cpu.pc = 0x005#13 ∧ t.cpu.halt = true ∧ t.cost = 5 := by
  decide +kernel

/-- 95_test_vectors.md V-SY8: `undefined 0xFFA`. -/
theorem test_sy8_undefined :
    let t := ran (decode 0xffa#12) (at0 { start with pc := 0x010#13, npc := 0x010#13, a := 0x1#4 } [])
    t.cpu.pc = 0x011#13 ∧ t.cpu.a = 0x1#4 ∧ t.cost = 5 := by
  decide +kernel

/-- 95_test_vectors.md V-SY9: `undefined 0xAF1`. -/
theorem test_sy9_undefined :
    let t := ran (decode 0xaf1#12) (at0 { start with pc := 0x010#13, npc := 0x010#13, a := 0x9#4, fC := false } [])
    t.cpu.pc = 0x011#13 ∧ t.cpu.a = 0x9#4 ∧ t.cpu.fC = false ∧ t.cost = 5 := by
  decide +kernel

/-- 95_test_vectors.md V-IX1: `LD X,0x13`. -/
theorem test_ix1_ldX :
    let t := ran (decode 0xb13#12) (at0 { start with xp := 0xf#4, xh := 0x0#4, xl := 0x0#4 } [])
    t.cpu.ix = 0xf13#12 ∧ t.cost = 5 := by
  decide +kernel

/-- 95_test_vectors.md V-IX2: `LD Y,0x80`. -/
theorem test_ix2_ldY :
    let t := ran (decode 0x880#12) (at0 { start with yp := 0x0#4, yh := 0x0#4, yl := 0x0#4 } [])
    t.cpu.iy = 0x080#12 ∧ t.cost = 5 := by
  decide +kernel

/-- 95_test_vectors.md V-IX3: `INC X at 0x2FF`. -/
theorem test_ix3_incX :
    let t := ran .incX (at0 { start with xp := 0x2#4, xh := 0xf#4, xl := 0xf#4, a := 0x4#4 } [])
    t.cpu.ix = 0x200#12 ∧ t.cpu.a = 0x4#4 ∧ t.cost = 5 := by
  decide +kernel

/-- 95_test_vectors.md V-IX4: `INC Y`. -/
theorem test_ix4_incY :
    let t := ran .incY (at0 { start with yp := 0x0#4, yh := 0xa#4, yl := 0x9#4 } [])
    t.cpu.iy = 0x0aa#12 := by
  decide +kernel

/-- 95_test_vectors.md V-IX5: `LD XP,A`. -/
theorem test_ix5_ldXP :
    let t := ran (decode 0xe80#12) (at0 { start with a := 0xf#4, xp := 0x0#4, xh := 0x1#4, xl := 0x3#4 } [])
    t.cpu.ix = 0xf13#12 := by
  decide +kernel

/-- 95_test_vectors.md V-IX6: `LD XL,MX`. -/
theorem test_ix6_ldXL :
    let t := ran (decode 0xe8a#12) (at0 { start with xp := 0x0#4, xh := 0x3#4, xl := 0x4#4 } [(0x034, 0x9#4)])
    t.cpu.ix = 0x039#12 := by
  decide +kernel

/-- 95_test_vectors.md V-IX7: `LD XH,B`. -/
theorem test_ix7_ldXH :
    let t := ran (decode 0xe85#12) (at0 { start with b := 0x7#4, xp := 0x0#4, xh := 0x0#4, xl := 0x0#4 } [])
    t.cpu.ix = 0x070#12 := by
  decide +kernel

/-- 95_test_vectors.md V-IX8: `LD YP,B`. -/
theorem test_ix8_ldYP :
    let t := ran (decode 0xe91#12) (at0 { start with b := 0xe#4, yp := 0x0#4, yh := 0x5#4, yl := 0x0#4 } [])
    t.cpu.iy = 0xe50#12 := by
  decide +kernel

/-- 95_test_vectors.md V-IX9: `LD YL,MY`. -/
theorem test_ix9_ldYL :
    let t := ran (decode 0xe9b#12) (at0 { start with yp := 0x0#4, yh := 0x2#4, yl := 0x0#4 } [(0x020, 0x6#4)])
    t.cpu.iy = 0x026#12 := by
  decide +kernel

/-- 95_test_vectors.md V-IX10: `LD A,XH`. -/
theorem test_ix10_ldRXH :
    let t := ran (decode 0xea4#12) (at0 { start with xp := 0x2#4, xh := 0xa#4, xl := 0x5#4 } [])
    t.cpu.a = 0xa#4 := by
  decide +kernel

/-- 95_test_vectors.md V-IX11: `LD MY,XL`. -/
theorem test_ix11_ldRXL :
    let t := ran (decode 0xeab#12)
      (at0 { start with xp := 0x2#4, xh := 0xa#4, xl := 0x5#4, yp := 0x0#4, yh := 0x1#4, yl := 0x0#4 } [])
    cell 0x010 t = 0x5#4 := by
  decide +kernel

/-- 95_test_vectors.md V-IX12: `LD B,YL`. -/
theorem test_ix12_ldRYL :
    let t := ran (decode 0xeb9#12) (at0 { start with yp := 0x2#4, yh := 0xa#4, yl := 0x5#4 } [])
    t.cpu.b = 0x5#4 := by
  decide +kernel

/-- 95_test_vectors.md V-IX13: `LD A,YP`. -/
theorem test_ix13_ldRYP :
    let t := ran (decode 0xeb0#12) (at0 { start with yp := 0x2#4, yh := 0xa#4, yl := 0x5#4 } [])
    t.cpu.a = 0x2#4 := by
  decide +kernel

/-- 95_test_vectors.md V-IX14: `ADC XL,0x1 carry out`. -/
theorem test_ix14_adcXL :
    let t := ran (decode 0xa11#12) (at0 { start with xp := 0x0#4, xh := 0x0#4, xl := 0xf#4, fC := false } [])
    t.cpu.ix = 0x000#12 ∧ t.cpu.fC = true ∧ t.cpu.fZ = true ∧ t.cost = 7 := by
  decide +kernel

/-- 95_test_vectors.md V-IX16: `ADC YH,0x9 with D=1`. -/
theorem test_ix16_adcYH :
    let t := ran (decode 0xa29#12) (at0 { start with yp := 0x0#4, yh := 0x5#4, yl := 0x0#4, fC := false, fD := true } [])
    t.cpu.iy = 0x0e0#12 ∧ t.cpu.fC = false ∧ t.cpu.fZ = false := by
  decide +kernel

/-- 95_test_vectors.md V-IX17: `CP YL,0x5 less`. -/
theorem test_ix17_cpYL :
    let t := ran (decode 0xa75#12) (at0 { start with yp := 0x0#4, yh := 0x0#4, yl := 0x3#4 } [])
    t.cpu.fC = true ∧ t.cpu.fZ = false ∧ t.cpu.iy = 0x003#12 ∧ t.cost = 7 := by
  decide +kernel

/-- 95_test_vectors.md V-IX18: `CP XH,0x3 equal`. -/
theorem test_ix18_cpXH :
    let t := ran (decode 0xa43#12) (at0 { start with xp := 0x0#4, xh := 0x3#4, xl := 0x0#4 } [])
    t.cpu.fC = false ∧ t.cpu.fZ = true := by
  decide +kernel

/-- 95_test_vectors.md V-IX19: `CP XL,0x2 greater`. -/
theorem test_ix19_cpXL :
    let t := ran (decode 0xa52#12) (at0 { start with xp := 0x0#4, xh := 0x0#4, xl := 0x9#4 } [])
    t.cpu.fC = false ∧ t.cpu.fZ = false := by
  decide +kernel

/-- 95_test_vectors.md V-TR1: `LD A,0x9`. -/
theorem test_tr1_ldRI :
    let t := ran (decode 0xe09#12) (at0 { start with a := 0x0#4 } [])
    t.cpu.a = 0x9#4 ∧ t.cost = 5 := by
  decide +kernel

/-- 95_test_vectors.md V-TR3: `LD B,A`. -/
theorem test_tr3_ldRQ :
    let t := ran (decode 0xec4#12) (at0 { start with a := 0x3#4 } [])
    t.cpu.b = 0x3#4 ∧ t.cost = 5 := by
  decide +kernel

/-- 95_test_vectors.md V-TR4: `LD MY,MX`. -/
theorem test_tr4_ldRQ :
    let t := ran (decode 0xece#12)
      (at0 { start with xp := 0x0#4, xh := 0x4#4, xl := 0x0#4, yp := 0x0#4, yh := 0x4#4, yl := 0x1#4 } [(0x040, 0x8#4)])
    cell 0x041 t = 0x8#4 := by
  decide +kernel

/-- 95_test_vectors.md V-TR7: `LD A,M5`. -/
theorem test_tr7_ldAM :
    let t := ran (decode 0xfa5#12) (at0 start [(0x005, 0x7#4)])
    t.cpu.a = 0x7#4 ∧ t.cost = 5 := by
  decide +kernel

/-- 95_test_vectors.md V-TR8: `LD B,MF`. -/
theorem test_tr8_ldBM :
    let t := ran (decode 0xfbf#12) (at0 start [(0x00f, 0x2#4)])
    t.cpu.b = 0x2#4 := by
  decide +kernel

/-- 95_test_vectors.md V-TR9: `LD M0,A`. -/
theorem test_tr9_ldMA :
    let t := ran (decode 0xf80#12) (at0 { start with a := 0x4#4 } [])
    cell 0x000 t = 0x4#4 := by
  decide +kernel

/-- 95_test_vectors.md V-TR10: `LD M1,B`. -/
theorem test_tr10_ldMB :
    let t := ran (decode 0xf91#12) (at0 { start with b := 0xc#4 } [])
    cell 0x001 t = 0xc#4 := by
  decide +kernel

/-- 95_test_vectors.md V-TR11: `LDPX MX,0x7`. -/
theorem test_tr11_ldpxI :
    let t := ran (decode 0xe67#12) (at0 { start with xp := 0x0#4, xh := 0x1#4, xl := 0x0#4 } [])
    cell 0x010 t = 0x7#4 ∧ t.cpu.ix = 0x011#12 ∧ t.cost = 5 := by
  decide +kernel

/-- 95_test_vectors.md V-TR13: `LDPX MX,MY`. -/
theorem test_tr13_ldpxRQ :
    let t := ran (decode 0xeeb#12)
      (at0 { start with yp := 0x0#4, yh := 0x4#4, yl := 0x0#4, xp := 0x0#4, xh := 0x8#4, xl := 0x0#4 } [(0x040, 0x9#4)])
    cell 0x080 t = 0x9#4 ∧ t.cpu.ix = 0x081#12 ∧ t.cpu.iy = 0x040#12 := by
  decide +kernel

/-- 95_test_vectors.md V-TR15: `LDPY MY,0x1 at Y=0xFF`. -/
theorem test_tr15_ldpyI :
    let t := ran (decode 0xe71#12) (at0 { start with yp := 0x0#4, yh := 0xf#4, yl := 0xf#4 } [])
    cell 0x0ff t = 0x1#4 ∧ t.cpu.iy = 0x000#12 := by
  decide +kernel

/-- 95_test_vectors.md V-TR16: `LDPY MY,A`. -/
theorem test_tr16_ldpyRQ :
    let t := ran (decode 0xefc#12) (at0 { start with a := 0x6#4, yp := 0x0#4, yh := 0x2#4, yl := 0x0#4 } [])
    cell 0x020 t = 0x6#4 ∧ t.cpu.iy = 0x021#12 := by
  decide +kernel

/-- 95_test_vectors.md V-TR18: `LBPX MX,0xA5`. -/
theorem test_tr18_lbpx :
    let t := ran (decode 0x9a5#12) (at0 { start with xp := 0x0#4, xh := 0x3#4, xl := 0x0#4 } [])
    cell 0x030 t = 0x5#4 ∧ cell 0x031 t = 0xa#4 ∧ t.cpu.ix = 0x032#12 ∧ t.cost = 5 := by
  decide +kernel

/-- 95_test_vectors.md V-TR19: `LBPX MX,0x12 at X=0xFF`. -/
theorem test_tr19_lbpx :
    let t := ran (decode 0x912#12) (at0 { start with xp := 0x1#4, xh := 0xf#4, xl := 0xf#4 } [])
    cell 0x1ff t = 0x2#4 ∧ cell 0x100 t = 0x1#4 ∧ t.cpu.ix = 0x101#12 := by
  decide +kernel

/-- 95_test_vectors.md V-FL1: `EI`. -/
theorem test_fl1_ei :
    let t := ran .ei (at0 { start with fI := false } [])
    t.cpu.fI = true ∧ t.cpu.fD = false ∧ t.cpu.fZ = false ∧ t.cpu.fC = false ∧ t.cost = 7 := by
  decide +kernel

/-- 95_test_vectors.md V-FL2: `SCF`. -/
theorem test_fl2_scf :
    let t := ran .scf (at0 { start with fC := false, fZ := true } [])
    t.cpu.fC = true ∧ t.cpu.fZ = true := by
  decide +kernel

/-- 95_test_vectors.md V-FL3: `SET F,0xF`. -/
theorem test_fl3_setF :
    let t := ran (decode 0xf4f#12) (at0 start [])
    t.cpu.fI = true ∧ t.cpu.fD = true ∧ t.cpu.fZ = true ∧ t.cpu.fC = true := by
  decide +kernel

/-- 95_test_vectors.md V-FL5: `RCF`. -/
theorem test_fl5_rcf :
    let t := ran .rcf (at0 { start with fI := true, fD := true, fZ := true, fC := true } [])
    t.cpu.fC = false ∧ t.cpu.fI = true ∧ t.cpu.fD = true ∧ t.cpu.fZ = true ∧ t.cost = 7 := by
  decide +kernel

/-- 95_test_vectors.md V-FL6: `DI`. -/
theorem test_fl6_di :
    let t := ran .di (at0 { start with fI := true, fC := true } [])
    t.cpu.fI = false ∧ t.cpu.fC = true := by
  decide +kernel

/-- 95_test_vectors.md V-FL7: `RDF`. -/
theorem test_fl7_rdf :
    let t := ran .rdf (at0 { start with fD := true, fZ := true } [])
    t.cpu.fD = false ∧ t.cpu.fZ = true := by
  decide +kernel

/-- 95_test_vectors.md V-FL8: `RST F,0x0`. -/
theorem test_fl8_rstF :
    let t := ran (decode 0xf50#12) (at0 { start with fI := true, fD := true, fZ := true, fC := true } [])
    t.cpu.fI = false ∧ t.cpu.fD = false ∧ t.cpu.fZ = false ∧ t.cpu.fC = false := by
  decide +kernel

/-- 95_test_vectors.md V-ST1: `INC SP at 0xFF`. -/
theorem test_st1_incSP :
    let t := ran (decode 0xfdb#12) (at0 { start with sp := 0xff#8 } [])
    t.cpu.sp = 0x00#8 ∧ t.cost = 5 := by
  decide +kernel

/-- 95_test_vectors.md V-ST2: `DEC SP at 0x00`. -/
theorem test_st2_decSP :
    let t := ran (decode 0xfcb#12) (at0 { start with sp := 0x00#8 } [])
    t.cpu.sp = 0xff#8 ∧ t.cost = 5 := by
  decide +kernel

/-- 95_test_vectors.md V-ST3: `PUSH A`. -/
theorem test_st3_push :
    let t := ran (decode 0xfc0#12) (at0 { start with a := 0x5#4, sp := 0xfd#8 } [])
    t.cpu.sp = 0xfc#8 ∧ cell 0x0fc t = 0x5#4 ∧ t.cost = 5 := by
  decide +kernel

/-- 95_test_vectors.md V-ST5: `POP B`. -/
theorem test_st5_pop :
    let t := ran (decode 0xfd1#12) (at0 { start with sp := 0xfc#8 } [(0x0fc, 0x5#4)])
    t.cpu.b = 0x5#4 ∧ t.cpu.sp = 0xfd#8 ∧ t.cost = 5 := by
  decide +kernel

/-- 95_test_vectors.md V-ST7: `PUSH XH`. -/
theorem test_st7_pushXH :
    let t := ran (decode 0xfc5#12) (at0 { start with xp := 0x2#4, xh := 0xa#4, xl := 0x5#4, sp := 0x10#8 } [])
    t.cpu.sp = 0x0f#8 ∧ cell 0x00f t = 0xa#4 := by
  decide +kernel

/-- 95_test_vectors.md V-ST8: `PUSH YL`. -/
theorem test_st8_pushYL :
    let t := ran (decode 0xfc9#12) (at0 { start with yp := 0x2#4, yh := 0xa#4, yl := 0x5#4, sp := 0x10#8 } [])
    t.cpu.sp = 0x0f#8 ∧ cell 0x00f t = 0x5#4 := by
  decide +kernel

/-- 95_test_vectors.md V-ST9: `POP YL`. -/
theorem test_st9_popYL :
    let t := ran (decode 0xfd9#12) (at0 { start with sp := 0x0f#8 } [(0x00f, 0xa#4)])
    t.cpu.iy = 0x00a#12 ∧ t.cpu.sp = 0x10#8 := by
  decide +kernel

/-- 95_test_vectors.md V-ST11: `PUSH F`. -/
theorem test_st11_pushF :
    let t := ran (decode 0xfca#12) (at0 { start with fI := true, fD := false, fZ := true, fC := true, sp := 0x20#8 } [])
    t.cpu.sp = 0x1f#8 ∧ cell 0x01f t = 0xb#4 := by
  decide +kernel

/-- 95_test_vectors.md V-ST12: `POP F`. -/
theorem test_st12_popF :
    let t := ran (decode 0xfda#12) (at0 { start with sp := 0x1f#8, fI := false } [(0x01f, 0xb#4)])
    t.cpu.fI = true ∧ t.cpu.fD = false ∧ t.cpu.fZ = true ∧ t.cpu.fC = true ∧ t.cpu.sp = 0x20#8 := by
  decide +kernel

/-- 95_test_vectors.md V-ST13: `LD SPH,A`. -/
theorem test_st13_ldSPH :
    let t := ran (decode 0xfe0#12) (at0 { start with a := 0xf#4, sp := 0x00#8 } [])
    t.cpu.sp = 0xf0#8 := by
  decide +kernel

/-- 95_test_vectors.md V-ST14: `LD SPL,B`. -/
theorem test_st14_ldSPL :
    let t := ran (decode 0xff1#12) (at0 { start with b := 0x8#4, sp := 0xf0#8 } [])
    t.cpu.sp = 0xf8#8 := by
  decide +kernel

/-- 95_test_vectors.md V-ST16: `LD A,SPH`. -/
theorem test_st16_ldRSPH :
    let t := ran (decode 0xfe4#12) (at0 { start with sp := 0xf8#8 } [])
    t.cpu.a = 0xf#4 := by
  decide +kernel

/-- 95_test_vectors.md V-ST17: `LD B,SPL`. -/
theorem test_st17_ldRSPL :
    let t := ran (decode 0xff5#12) (at0 { start with sp := 0xf8#8 } [])
    t.cpu.b = 0x8#4 := by
  decide +kernel

/-- 95_test_vectors.md V-AR1: `ADD A,B decimal 9+2`. -/
theorem test_ar1_addRQ :
    let t := ran (decode 0xa81#12) (at0 { start with a := 0x9#4, b := 0x2#4, fD := true } [])
    t.cpu.a = 0x1#4 ∧ t.cpu.fC = true ∧ t.cpu.fZ = false ∧ t.cost = 7 := by
  decide +kernel

/-- 95_test_vectors.md V-AR2: `ADD A,B binary 9+2`. -/
theorem test_ar2_addRQ :
    let t := ran (decode 0xa81#12) (at0 { start with a := 0x9#4, b := 0x2#4, fD := false } [])
    t.cpu.a = 0xb#4 ∧ t.cpu.fC = false ∧ t.cpu.fZ = false := by
  decide +kernel

/-- 95_test_vectors.md V-AR9: `ADD A,0xF binary`. -/
theorem test_ar9_addRI :
    let t := ran (decode 0xc0f#12) (at0 { start with a := 0x3#4, fD := false } [])
    t.cpu.a = 0x2#4 ∧ t.cpu.fC = true ∧ t.cpu.fZ = false ∧ t.cost = 7 := by
  decide +kernel

/-- 95_test_vectors.md V-AR10: `ADD A,0xF binary from 0`. -/
theorem test_ar10_addRI :
    let t := ran (decode 0xc0f#12) (at0 { start with a := 0x0#4, fD := false } [])
    t.cpu.a = 0xf#4 ∧ t.cpu.fC = false ∧ t.cpu.fZ = false := by
  decide +kernel

/-- 95_test_vectors.md V-AR12: `ADC MX,0x0 decimal with carry`. -/
theorem test_ar12_adcRI :
    let t := ran (decode 0xc60#12)
      (at0 { start with xp := 0x0#4, xh := 0x1#4, xl := 0x0#4, fC := true, fD := true } [(0x010, 0x9#4)])
    cell 0x010 t = 0x0#4 ∧ t.cpu.fC = true ∧ t.cpu.fZ = true := by
  decide +kernel

/-- 95_test_vectors.md V-AR14: `ADC A,B binary 8+8+1`. -/
theorem test_ar14_adcRQ :
    let t := ran (decode 0xa91#12) (at0 { start with a := 0x8#4, b := 0x8#4, fC := true, fD := false } [])
    t.cpu.a = 0x1#4 ∧ t.cpu.fC = true ∧ t.cpu.fZ = false := by
  decide +kernel

/-- 95_test_vectors.md V-AR15: `ADC A,B decimal 9+9+1`. -/
theorem test_ar15_adcRQ :
    let t := ran (decode 0xa91#12) (at0 { start with a := 0x9#4, b := 0x9#4, fC := true, fD := true } [])
    t.cpu.a = 0x9#4 ∧ t.cpu.fC = true ∧ t.cpu.fZ = false := by
  decide +kernel

/-- 95_test_vectors.md V-AR17: `SUB A,B decimal 2-5`. -/
theorem test_ar17_subRQ :
    let t := ran (decode 0xaa1#12) (at0 { start with a := 0x2#4, b := 0x5#4, fD := true } [])
    t.cpu.a = 0x7#4 ∧ t.cpu.fC = true ∧ t.cpu.fZ = false ∧ t.cost = 7 := by
  decide +kernel

/-- 95_test_vectors.md V-AR18: `SUB A,B binary 2-5`. -/
theorem test_ar18_subRQ :
    let t := ran (decode 0xaa1#12) (at0 { start with a := 0x2#4, b := 0x5#4, fD := false } [])
    t.cpu.a = 0xd#4 ∧ t.cpu.fC = true ∧ t.cpu.fZ = false := by
  decide +kernel

/-- 95_test_vectors.md V-AR22: `SBC B,0x0 binary with borrow`. -/
theorem test_ar22_sbcRI :
    let t := ran (decode 0xd50#12) (at0 { start with b := 0x0#4, fC := true, fD := false } [])
    t.cpu.b = 0xf#4 ∧ t.cpu.fC = true ∧ t.cpu.fZ = false := by
  decide +kernel

/-- 95_test_vectors.md V-AR23: `SBC A,0x1 decimal 0-1`. -/
theorem test_ar23_sbcRI :
    let t := ran (decode 0xd41#12) (at0 { start with a := 0x0#4, fC := false, fD := true } [])
    t.cpu.a = 0x9#4 ∧ t.cpu.fC = true ∧ t.cpu.fZ = false := by
  decide +kernel

/-- 95_test_vectors.md V-AR24: `SBC A,B decimal 5-5-1`. -/
theorem test_ar24_sbcRQ :
    let t := ran (decode 0xab1#12) (at0 { start with a := 0x5#4, b := 0x5#4, fC := true, fD := true } [])
    t.cpu.a = 0x9#4 ∧ t.cpu.fC = true ∧ t.cpu.fZ = false := by
  decide +kernel

/-- 95_test_vectors.md V-AR26: `AND A,0x9`. -/
theorem test_ar26_andRI :
    let t := ran (decode 0xc89#12) (at0 { start with a := 0x6#4, fC := true } [])
    t.cpu.a = 0x0#4 ∧ t.cpu.fZ = true ∧ t.cpu.fC = true ∧ t.cost = 7 := by
  decide +kernel

/-- 95_test_vectors.md V-AR27: `AND A,B`. -/
theorem test_ar27_andRQ :
    let t := ran (decode 0xac1#12) (at0 { start with a := 0xc#4, b := 0xa#4, fC := false } [])
    t.cpu.a = 0x8#4 ∧ t.cpu.fZ = false ∧ t.cpu.fC = false := by
  decide +kernel

/-- 95_test_vectors.md V-AR28: `OR B,0x0`. -/
theorem test_ar28_orRI :
    let t := ran (decode 0xcd0#12) (at0 { start with b := 0x0#4 } [])
    t.cpu.b = 0x0#4 ∧ t.cpu.fZ = true := by
  decide +kernel

/-- 95_test_vectors.md V-AR29: `OR A,B`. -/
theorem test_ar29_orRQ :
    let t := ran (decode 0xad1#12) (at0 { start with a := 0x1#4, b := 0x4#4 } [])
    t.cpu.a = 0x5#4 ∧ t.cpu.fZ = false := by
  decide +kernel

/-- 95_test_vectors.md V-AR30: `NOT A`. -/
theorem test_ar30_notA :
    let t := ran .notA (at0 { start with a := 0x5#4 } [])
    t.cpu.a = 0xa#4 ∧ t.cpu.fZ = false := by
  decide +kernel

/-- 95_test_vectors.md V-AR31: `NOT B of 0xF`. -/
theorem test_ar31_notB :
    let t := ran .notB (at0 { start with b := 0xf#4, fC := true } [])
    t.cpu.b = 0x0#4 ∧ t.cpu.fZ = true ∧ t.cpu.fC = true := by
  decide +kernel

/-- 95_test_vectors.md V-AR32: `XOR MX,0x3`. -/
theorem test_ar32_xorRI :
    let t := ran (decode 0xd23#12) (at0 { start with xp := 0x0#4, xh := 0x1#4, xl := 0x0#4 } [(0x010, 0x6#4)])
    cell 0x010 t = 0x5#4 ∧ t.cpu.fZ = false := by
  decide +kernel

/-- 95_test_vectors.md V-AR33: `XOR A,A`. -/
theorem test_ar33_xorRQ :
    let t := ran (decode 0xae0#12) (at0 { start with a := 0x7#4 } [])
    t.cpu.a = 0x0#4 ∧ t.cpu.fZ = true := by
  decide +kernel

/-- 95_test_vectors.md V-AR34: `CP A,0x4 equal`. -/
theorem test_ar34_cpRI :
    let t := ran (decode 0xdc4#12) (at0 { start with a := 0x4#4 } [])
    t.cpu.fC = false ∧ t.cpu.fZ = true ∧ t.cpu.a = 0x4#4 ∧ t.cost = 7 := by
  decide +kernel

/-- 95_test_vectors.md V-AR36: `CP A,B`. -/
theorem test_ar36_cpRQ :
    let t := ran (decode 0xf01#12) (at0 { start with a := 0x2#4, b := 0x9#4 } [])
    t.cpu.fC = true ∧ t.cpu.fZ = false := by
  decide +kernel

/-- 95_test_vectors.md V-AR38: `FAN A,0x8`. -/
theorem test_ar38_fanRI :
    let t := ran (decode 0xd88#12) (at0 { start with a := 0x8#4, fC := true } [])
    t.cpu.fZ = false ∧ t.cpu.a = 0x8#4 ∧ t.cpu.fC = true := by
  decide +kernel

/-- 95_test_vectors.md V-AR39: `FAN MX,0x1 at IFT`. -/
theorem test_ar39_fanRI :
    let t := ran (decode 0xda1#12) (withIft 0x6#4 (at0 { start with xp := 0xf#4, xh := 0x0#4, xl := 0x0#4 } []))
    t.cpu.fZ = true ∧ t.bus.io.ift = 0x0#4 := by
  decide +kernel

/-- 95_test_vectors.md V-AR40: `FAN A,B`. -/
theorem test_ar40_fanRQ :
    let t := ran (decode 0xf11#12) (at0 { start with a := 0x1#4, b := 0x2#4 } [])
    t.cpu.fZ = true := by
  decide +kernel

/-- 95_test_vectors.md V-AR41: `RLC A`. -/
theorem test_ar41_rlc :
    let t := ran (decode 0xaf0#12) (at0 { start with a := 0x9#4, fC := false } [])
    t.cpu.a = 0x2#4 ∧ t.cpu.fC = true ∧ t.cpu.fZ = false ∧ t.cost = 7 := by
  decide +kernel

/-- 95_test_vectors.md V-AR42: `RLC B with C=1`. -/
theorem test_ar42_rlc :
    let t := ran (decode 0xaf5#12) (at0 { start with b := 0x8#4, fC := true } [])
    t.cpu.b = 0x1#4 ∧ t.cpu.fC = true ∧ t.cpu.fZ = false := by
  decide +kernel

/-- 95_test_vectors.md V-AR44: `RRC B`. -/
theorem test_ar44_rrc :
    let t := ran (decode 0xe8d#12) (at0 { start with b := 0x1#4, fC := false } [])
    t.cpu.b = 0x0#4 ∧ t.cpu.fC = true ∧ t.cpu.fZ = true ∧ t.cost = 5 := by
  decide +kernel

/-- 95_test_vectors.md V-AR45: `RRC A with C=1`. -/
theorem test_ar45_rrc :
    let t := ran (decode 0xe8c#12) (at0 { start with a := 0x6#4, fC := true } [])
    t.cpu.a = 0xb#4 ∧ t.cpu.fC = false ∧ t.cpu.fZ = false := by
  decide +kernel

/-- 95_test_vectors.md V-AR46: `INC M3 at 0xF`. -/
theorem test_ar46_incM :
    let t := ran (decode 0xf63#12) (at0 start [(0x003, 0xf#4)])
    cell 0x003 t = 0x0#4 ∧ t.cpu.fC = true ∧ t.cpu.fZ = true ∧ t.cost = 7 := by
  decide +kernel

/-- 95_test_vectors.md V-AR47: `INC M3 at 0x9 with D=1`. -/
theorem test_ar47_incM :
    let t := ran (decode 0xf63#12) (at0 { start with fD := true } [(0x003, 0x9#4)])
    cell 0x003 t = 0xa#4 ∧ t.cpu.fC = false ∧ t.cpu.fZ = false := by
  decide +kernel

/-- 95_test_vectors.md V-AR48: `DEC M0 at 0x1`. -/
theorem test_ar48_decM :
    let t := ran (decode 0xf70#12) (at0 start [(0x000, 0x1#4)])
    cell 0x000 t = 0x0#4 ∧ t.cpu.fC = false ∧ t.cpu.fZ = true := by
  decide +kernel

/-- 95_test_vectors.md V-AR50: `ACPX MX,A decimal`. -/
theorem test_ar50_acpx :
    let t := ran (decode 0xf28#12)
      (at0 { start with xp := 0x0#4, xh := 0x1#4, xl := 0x0#4, a := 0x7#4, fC := false, fD := true } [(0x010, 0x5#4)])
    cell 0x010 t = 0x2#4 ∧ t.cpu.fC = true ∧ t.cpu.fZ = false ∧ t.cpu.ix = 0x011#12 ∧ t.cost = 7 := by
  decide +kernel

/-- 95_test_vectors.md V-AR51: `ACPX MX,MX binary`. -/
theorem test_ar51_acpx :
    let t := ran (decode 0xf2a#12)
      (at0 { start with xp := 0x0#4, xh := 0x1#4, xl := 0x0#4, fC := false, fD := false } [(0x010, 0x6#4)])
    cell 0x010 t = 0xc#4 ∧ t.cpu.fC = false ∧ t.cpu.ix = 0x011#12 := by
  decide +kernel

/-- 95_test_vectors.md V-AR52: `ACPY MY,B binary`. -/
theorem test_ar52_acpy :
    let t := ran (decode 0xf2d#12)
      (at0 { start with yp := 0x0#4, yh := 0x2#4, yl := 0x0#4, b := 0x1#4, fC := false, fD := false } [(0x020, 0xf#4)])
    cell 0x020 t = 0x0#4 ∧ t.cpu.fC = true ∧ t.cpu.fZ = true ∧ t.cpu.iy = 0x021#12 := by
  decide +kernel

/-- 95_test_vectors.md V-AR53: `SCPX MX,B decimal`. -/
theorem test_ar53_scpx :
    let t := ran (decode 0xf39#12)
      (at0 { start with xp := 0x0#4, xh := 0x1#4, xl := 0x0#4, b := 0x5#4, fC := false, fD := true } [(0x010, 0x3#4)])
    cell 0x010 t = 0x8#4 ∧ t.cpu.fC = true ∧ t.cpu.fZ = false ∧ t.cpu.ix = 0x011#12 ∧ t.cost = 7 := by
  decide +kernel

/-- 95_test_vectors.md V-AR54: `SCPY MY,A binary with borrow`. -/
theorem test_ar54_scpy :
    let t := ran (decode 0xf3c#12) (at0 { start with yp := 0x0#4, yh := 0x2#4, yl := 0x0#4, a := 0x0#4, fC := true, fD := false } [])
    cell 0x020 t = 0xf#4 ∧ t.cpu.fC = true ∧ t.cpu.fZ = false ∧ t.cpu.iy = 0x021#12 := by
  decide +kernel

/-- 95_test_vectors.md V-AR55: `SCPY MY,MX decimal`. -/
theorem test_ar55_scpy :
    let t := ran (decode 0xf3e#12)
      (at0 { start with yp := 0x0#4, yh := 0x2#4, yl := 0x0#4, xp := 0x0#4, xh := 0x3#4, xl := 0x0#4, fC := false, fD := true } [(0x020,
      0x4#4), (0x030, 0x4#4)])
    cell 0x020 t = 0x0#4 ∧ t.cpu.fC = false ∧ t.cpu.fZ = true ∧ t.cpu.iy = 0x021#12 := by
  decide +kernel

/-- 43_index.md R190: the carry in, the carry out and Z of the high nibble. -/
theorem test_adcXH :
    let t := ran (decode 0xA07#12) (at0 { start with xh := 0x8#4, xl := 0x5#4, fC := true } [])
    t.cpu.ix = 0x005#12 ∧ t.cpu.fC = true ∧ t.cpu.fZ = true := by
  decide +kernel

/-- 43_index.md R190. -/
theorem test_adcYL :
    let t := ran (decode 0xA3F#12) (at0 { start with yp := 0x3#4, yl := 0x5#4 } [])
    t.cpu.iy = 0x304#12 ∧ t.cpu.fC = true ∧ t.cpu.fZ = false := by
  decide +kernel

/-- 43_index.md R191. -/
theorem test_cpYH :
    let t := ran (decode 0xA6E#12) (at0 { start with yh := 0xD#4, yl := 0xE#4 } [])
    t.cpu.fC = true ∧ t.cpu.fZ = false ∧ t.cpu.iy = 0x0DE#12 := by
  decide +kernel

/-- 43_index.md R187. -/
theorem test_ldYH :
    let t := ran (decode 0xE96#12) (at0 { start with xl := 0x9#4, yp := 0x1#4, yl := 0x2#4 } [(0x009, 0xB#4)])
    t.cpu.iy = 0x1B2#12 := by
  decide +kernel

/-- 43_index.md R188. -/
theorem test_ldRXP :
    (ran (decode 0xEA1#12) (at0 { start with xp := 0x2#4, xh := 0xA#4, xl := 0x5#4 } [])).cpu.b = 0x2#4 := by
  decide +kernel

/-- 43_index.md R189. -/
theorem test_ldRYH :
    cell 0x031 (ran (decode 0xEB6#12) (at0 { start with xh := 0x3#4, xl := 0x1#4, yp := 0x1#4, yh := 0xC#4, yl := 0x2#4 } [])) = 0xC#4 := by
  decide +kernel

/-- A core with `IX = 0x2A5`, `IY = 0x1B6` and `SP = 0x10`. -/
def indexed : Cpu :=
  { start with xp := 0x2#4, xh := 0xA#4, xl := 0x5#4, yp := 0x1#4, yh := 0xB#4, yl := 0x6#4, sp := 0x10#8 }

/-- 46_stack.md R234: each push of an index nibble stores that nibble at `SP - 1`. -/
theorem test_push_index :
    cell 0x00F (ran (decode 0xFC4#12) (at0 indexed [])) = 0x2#4 ∧ cell 0x00F (ran (decode 0xFC6#12) (at0 indexed [])) = 0x5#4 ∧
      cell 0x00F (ran (decode 0xFC7#12) (at0 indexed [])) = 0x1#4 ∧ cell 0x00F (ran (decode 0xFC8#12) (at0 indexed [])) = 0xB#4 := by
  decide +kernel

/-- 46_stack.md R235: each pop of an index nibble loads that nibble alone. -/
theorem test_pop_index :
    (ran (decode 0xFD4#12) (at0 indexed [(0x010, 0xE#4)])).cpu = { indexed with xp := 0xE#4, sp := 0x11#8, pc := 0x001#13 } ∧
      (ran (decode 0xFD5#12) (at0 indexed [(0x010, 0xE#4)])).cpu = { indexed with xh := 0xE#4, sp := 0x11#8, pc := 0x001#13 } ∧
      (ran (decode 0xFD6#12) (at0 indexed [(0x010, 0xE#4)])).cpu = { indexed with xl := 0xE#4, sp := 0x11#8, pc := 0x001#13 } ∧
      (ran (decode 0xFD7#12) (at0 indexed [(0x010, 0xE#4)])).cpu = { indexed with yp := 0xE#4, sp := 0x11#8, pc := 0x001#13 } ∧
      (ran (decode 0xFD8#12) (at0 indexed [(0x010, 0xE#4)])).cpu = { indexed with yh := 0xE#4, sp := 0x11#8, pc := 0x001#13 } := by
  decide +kernel

/-- 45_flag.md R220, R221: SZF, SDF and RZF write one flag each. -/
theorem test_szf_sdf_rzf :
    (ran .szf (at0 start [])).cpu = { start with fZ := true, pc := 0x001#13 } ∧
      (ran .sdf (at0 start [])).cpu = { start with fD := true, pc := 0x001#13 } ∧
      (ran .rzf (at0 { start with fZ := true, fC := true } [])).cpu = { start with fC := true, pc := 0x001#13 } := by
  decide +kernel

/-- 47_arith.md R266: NOT MX and NOT MY are XOR with 0xF. -/
theorem test_notMX_notMY :
    cell 0x020 (ran .notMX (at0 { start with xh := 0x2#4 } [(0x020, 0x6#4)])) = 0x9#4 ∧
      cell 0x020 (ran .notMY (at0 { start with yh := 0x2#4 } [(0x020, 0xF#4)])) = 0x0#4 := by
  decide +kernel

/-! ## Steps -/

/-- 95_test_vectors.md V-BR4: `PSET 0x13`, then `JP 0x45`. -/
theorem test_step_pset_jp :
    let t := stepped 0x045 (stepped 0xE53 (at0 { start with pc := 0x010#13, npc := 0x010#13 } []))
    t.cpu.pc = 0x1345#13 ∧ t.cpu.npc = 0x1345#13 := by
  decide +kernel

/-- 95_test_vectors.md V-BR8: the page of a PSET is lost in a jump that is not taken. -/
theorem test_step_pset_lost :
    let t := stepped 0x208 (stepped 0xE45 (at0 { start with pc := 0x020#13, npc := 0x020#13 } []))
    t.cpu.pc = 0x022#13 ∧ t.cpu.npc = 0x022#13 := by
  decide +kernel

/-- The state of 95_test_vectors.md V-IN1. -/
def in1 : State :=
  withIo { State.reset.bus.io with ipt := true, eipt := true, ift := 0x1#4, eit := 0x1#4 }
    (at0 { start with pc := 0x020#13, npc := 0x020#13, fI := true } [])

/-- 95_test_vectors.md V-IN1. -/
theorem test_step_interrupt :
    let t := stepped 0xFFB in1
    t.cpu.pc = 0x10C#13 ∧ t.cpu.sp = 0xFD#8 ∧ cell 0x0FD t = 0x1#4 ∧ cell 0x0FE t = 0x2#4 ∧ cell 0x0FF t = 0x0#4 ∧
      t.cpu.fI = false ∧ t.bus.io.ipt = true ∧ t.bus.io.ift = 0x1#4 ∧ t.cost = 17 ∧ t.diag.counts.pt = 1 := by
  decide +kernel

/-- The state of 95_test_vectors.md V-IN2. -/
def in2 : State :=
  withIo { State.reset.bus.io with ift := 0x1#4, eit := 0x1#4 } (at0 { start with pc := 0x020#13, npc := 0x020#13 } [])

/-- 95_test_vectors.md V-IN2 and V-IN3: the step of EI enters nothing, the next one does. -/
theorem test_step_enable_delay :
    let t := stepped 0xF48 in2
    let u := stepped 0xFFB t
    t.cpu.pc = 0x021#13 ∧ t.cpu.fI = true ∧ t.cpu.intDelay = false ∧ t.cost = 7 ∧ u.cpu.pc = 0x102#13 ∧ u.cost = 17 := by
  decide +kernel

/-- The state of 95_test_vectors.md V-IN5, and W7. -/
def in5 : State :=
  withIo { State.reset.bus.io with ift := 0x1#4, eit := 0x1#4 }
    (at0 { start with pc := 0x021#13, npc := 0x021#13, fI := true, halt := true } [])

/-- 95_test_vectors.md V-IN5 and V-IN6: a halted step enters the interrupt with `I = 1`, and stays halted with `I = 0`. -/
theorem test_step_halted :
    let t := after in5
    let u := after { in5 with cpu := { in5.cpu with fI := false } }
    t.cpu.pc = 0x102#13 ∧ t.cpu.halt = false ∧ t.cost = 17 ∧ u.cpu.pc = 0x021#13 ∧ u.cpu.halt = true ∧ u.cost = 5 := by
  decide +kernel

/-- 95_test_vectors.md V-CK1: the clock after one step of 5 cycles from reset. -/
theorem test_step_clock :
    let t := after State.reset
    t.bus.clk.oscResidual = 273486328125 / 10000000000 ∧ t.bus.clk.oscTicks = 1 ∧ t.bus.io.tm = 0x01#8 := by
  decide +kernel

/-! ## Devices -/

/-- 95_test_vectors.md V-TM3 and V-TM4. -/
theorem test_main_timer :
    let b := fun tm => { State.reset.bus with
      io := { State.reset.bus.io with tm := tm }, clk := { State.reset.bus.clk with tmResidual := 1 } }
    (oscTick defaultParams (b 0x7F#8)).io.ift = 0x7#4 ∧ (oscTick defaultParams (b 0xFF#8)).io.ift = 0xF#4 := by
  decide +kernel

/-- 95_test_vectors.md V-SW3. -/
theorem test_stopwatch :
    let b := { State.reset.bus with
      io := { State.reset.bus.io with swrun := true, swl := 0x9#4, swh := 0x9#4 }, clk := { State.reset.bus.clk with swResidual := 1 } }
    let c := oscTick defaultParams b
    c.io.swl = 0x0#4 ∧ c.io.swh = 0x0#4 ∧ c.io.ifsw = 0x3#2 := by
  decide +kernel

/-- 95_test_vectors.md V-BZ1 to V-BZ3 and V-BZ7. -/
theorem test_buzzer :
    let s1 := wrote 0xF54 0x8 State.reset
    let s2 := wrote 0xF74 0x2 s1
    s1.bus.events = [.buzzer ⟨true, 4096, 1⟩] ∧ s2.bus.bz.lastEvent = ⟨true, 8192 / 3, 1⟩ ∧
      (wrote 0xF54 0x0 s2).bus.bz.lastEvent = BuzzerEvent.off ∧ (resetOp s1).bus.events = [.buzzer ⟨true, 4096, 1⟩, .buzzer .off] := by
  decide +kernel

/-- 95_test_vectors.md V-SE1, V-SE2 and V-SE4. -/
theorem test_serial :
    let s1 := wrote 0xF30 0xA State.reset
    let s2 := wrote 0xF31 0x5 s1
    s1.bus.events = [] ∧ s1.bus.io.sioMask = 1#2 ∧ s2.bus.events = [.serialOut 0x5A#8] ∧ s2.bus.io.sioMask = 0#2 ∧
      cell 0xF31 (injectSerialByte 0x5A#8 s1) = 0x5#4 ∧ (injectSerialByte 0x5A#8 s1).bus.io.sioMask = 1#2 := by
  decide +kernel

/-- 95_test_vectors.md V-PO1 to V-PO5. -/
theorem test_ports :
    let s1 := wrote 0xF60 0x5 State.reset
    let s2 := wrote 0xF7D 0x1 s1
    let s3 := setPin (.p 1) 0 0 (setLinkedPortDrive 1 (some 0x3) State.reset)
    cell 0xF60 State.reset = 0xF#4 ∧ cell 0xF60 s1 = 0xF#4 ∧ cell 0xF60 s2 = 0x5#4 ∧ getPortDrive 0 s2 = some 0x5#4 ∧
      cell 0xF61 s3 = 0x2#4 ∧ s3.bus.io.p1.pv = 0x2#4 ∧ cell 0xF42 (setPin .k1 0 0 State.reset) = 0xE#4 := by
  decide +kernel

/-- 60_exceptions.md R363 and R366: a P pin released reads 1 again, under its linked port; another port changes nothing. -/
theorem test_release :
    let s1 := setPin (.p 1) 0 0 (setLinkedPortDrive 1 (some 0x3) State.reset)
    cell 0xF61 (releasePin (.p 1) 0 s1) = 0x3#4 ∧ setPin (.other 6) 0 0 s1 = s1 ∧ releasePin (.other 6) 0 s1 = s1 := by
  decide +kernel

/-- 95_test_vectors.md V-IN14 and V-IN15: edges of K1 and K0. -/
theorem test_edges :
    let s1 := setPin .k1 2 0 State.reset
    let s2 := setPin .k1 2 0 (setPin .k1 2 1 (wrote 0xF15 0x4 s1))
    let k0 := setPin .k0 1 0 (wrote 0xF41 0x2 (wrote 0xF14 0x2 State.reset))
    s1.bus.io.ik1 = false ∧ s2.bus.io.ik1 = true ∧ k0.bus.io.ik0 = false ∧ (setPin .k0 1 1 k0).bus.io.ik0 = true := by
  decide +kernel

/-- 95_test_vectors.md V-DP2, V-DP3 and V-RS3. -/
theorem test_display :
    let s1 := wrote 0xF71 0x0 State.reset
    let s2 := wrote 0xE81 0x3 s1
    (wrote 0xE00 0x0 State.reset).bus.displayGeneration = 0 ∧ s1.bus.displayGeneration = 1 ∧
      (displayFrame s1).drop 158 = [0x0#4, 0x0#4, 0xF#4, 0xF#4, 0xF#4, 0xF#4, 0x0#4, 0x0#4, 0x0#4, 0x0#4] ∧
      (displayFrame s2)[81]? = some 0x3#4 ∧ s2.bus.displayGeneration = 2 ∧ (resetOp s2).bus.displayGeneration = 3 := by
  decide +kernel

/-- 95_test_vectors.md V-RM1 and V-RM4. -/
theorem test_rom :
    let p1 := { defaultParams with rom := [0xE0#8, 0x95#8, 0xFF#8] }
    let p2 := { defaultParams with rom := [0x90#8, 0xE0#8], romWordOrder := .little }
    opcodeOfWord (romWord p1 0#13) = 0xE09#12 ∧ opcodeOfWord (romWord p1 1#13) = 0xFFE#12 ∧
      opcodeOfWord (romWord p1 2#13) = 0x95F#12 ∧ opcodeOfWord (romWord p2 0#13) = 0xE09#12 := by
  decide +kernel

/-- 95_test_vectors.md V-CK3 and V-CK4: the ticks that a fast forward applies. -/
theorem test_fastForward :
    (fastForward (-5) State.reset).1 = 0 ∧ min (max (20000000 : Int) 0).toNat defaultParams.ffCap = 19660800 := by
  decide +kernel

/-! ## Witnesses: states and operands that meet the hypotheses of the statements -/

/-- DecodeOfEncode: a well-formed instruction that is no alias, one that is, and an undefined one. -/
theorem witness_DecodeOfEncode :
    (Instr.addRQ .my .b).wf = true ∧ (Instr.addRQ .my .b).isAlias = false ∧ Instr.ei.wf = true ∧ Instr.ei.isAlias = true ∧
      (Instr.undefined 0xF27#12).wf = true ∧ (Instr.undefined 0xF27#12).isAlias = false := by
  decide +kernel

/-- RomFetch: an empty ROM, a big-endian one and a little-endian one. -/
theorem witness_RomFetch :
    State.reset.params.rom.length = 0 ∧ (0 < (stepped 0xE09 State.reset).params.rom.length ∧
      (stepped 0xE09 State.reset).params.romWordOrder = .big) ∧
      (let p := { defaultParams with rom := [0x90#8], romWordOrder := .little }
       0 < (State.construct p).params.rom.length ∧ (State.construct p).params.romWordOrder = .little) := by
  decide +kernel

/-- PlacedWordRuns: the instruction of a placed word answers a next state. -/
theorem witness_PlacedWordRuns :
    exec (decode 0xE09#12) (State.reset.withFetchWord 16 (0xE09#12 : Opcode).toNat) =
      .next (ran (decode 0xE09#12) (State.reset.withFetchWord 16 0xE09)) :=
  exec_eq_ran _ _

/-- The reset state with `PSET 0x13` at its program counter. -/
def psetState : State := State.reset.withFetchWord 16 0xE53

/-- The reset state with `NOP5` at its program counter. -/
def nopState : State := State.reset.withFetchWord 16 0xFFB

/-- StepRunsDecodedInstruction: with a PSET and with another instruction. -/
theorem witness_StepRunsDecodedInstruction :
    (psetState.cpu.resetLatch = false ∧ psetState.cpu.halt = false ∧ decode (fetch psetState) = .pset 0x13#5 ∧
      (Instr.pset 0x13#5).wf = true ∧ exec (.pset 0x13#5) psetState = .next (ran (.pset 0x13#5) psetState)) ∧
      (nopState.cpu.resetLatch = false ∧ nopState.cpu.halt = false ∧ decode (fetch nopState) = .nop5 ∧ Instr.nop5.wf = true ∧
      exec .nop5 nopState = .next (ran .nop5 nopState)) :=
  ⟨⟨rfl, rfl, by decide +kernel, rfl, exec_eq_ran _ _⟩, ⟨rfl, rfl, by decide +kernel, rfl, exec_eq_ran _ _⟩⟩

/-- StepCycles: a step with no entry and a step with one. -/
theorem witness_StepCycles :
    step nopState = .next (after nopState) ∧ (after nopState).diag.interruptCount = nopState.diag.interruptCount ∧
      step in5 = .next (after in5) ∧ (after in5).diag.interruptCount = in5.diag.interruptCount + 1 :=
  ⟨step_eq_after (by decide +kernel), by decide +kernel, step_eq_after (by decide +kernel), by decide +kernel⟩

/-- PendingPage, first and third clause: no PSET; a PSET with no entry. -/
theorem witness_PendingPage :
    (nopState.cpu.resetLatch = false ∧ nopState.cpu.halt = false ∧ step nopState = .next (after nopState) ∧
      ∀ p, decode (fetch nopState) ≠ .pset p) ∧
    (psetState.cpu.resetLatch = false ∧ psetState.cpu.halt = false ∧ step psetState = .next (after psetState) ∧
      decode (fetch psetState) = .pset 0x13#5 ∧ (after psetState).diag.interruptCount = psetState.diag.interruptCount) :=
  ⟨⟨rfl, rfl, step_eq_after (by decide +kernel), by decide +kernel⟩,
    ⟨rfl, rfl, step_eq_after (by decide +kernel), by decide +kernel, by decide +kernel⟩⟩

/-- `PSET 0x13` with the input interrupt K0 pending (95_test_vectors.md V-IN8). -/
def in8 : State :=
  (withIo { State.reset.bus.io with ik0 := true } (at0 { start with pc := 0x020#13, npc := 0x020#13, fI := true } [])).withFetchWord
    16 0xE53

/-- PendingPage, second clause, and V-IN8: an entry after a PSET. -/
theorem witness_PendingPage_entry :
    in8.cpu.resetLatch = false ∧ in8.cpu.halt = false ∧ step in8 = .next (after in8) ∧
      (after in8).diag.interruptCount ≠ in8.diag.interruptCount ∧ (after in8).cpu.npc = 0x106#13 :=
  ⟨rfl, rfl, step_eq_after (by decide +kernel), by decide +kernel, by decide +kernel⟩

/-- The reset state with the reset latch set. -/
def latched : State := { State.reset with cpu := { start with resetLatch := true } }

/-- The reset state, halted. -/
def halted : State := { State.reset with cpu := { start with halt := true } }

/-- HaltedStep: the reset latch set; halted with no entry. -/
theorem witness_HaltedStep :
    (step latched = .next (after latched) ∧ latched.cpu.resetLatch = true) ∧
    (step halted = .next (after halted) ∧ halted.cpu.resetLatch = false ∧ halted.cpu.halt = true ∧
      (after halted).diag.interruptCount = halted.diag.interruptCount) :=
  ⟨⟨step_eq_after (by decide +kernel), rfl⟩, ⟨step_eq_after (by decide +kernel), rfl, rfl, by decide +kernel⟩⟩

/-- The taken source of a state whose only pending source is the main timer. -/
theorem in5_taken : isTaken in5.bus.io .tm := by
  refine ⟨⟨0, by decide, by decide, by decide⟩, ?_⟩
  intro other h
  cases other <;> first | exact le_refl _ | (exfalso; revert h; simp [isPending, in5, withIo, at0, State.reset, State.construct, Io.reset])

/-- LeavingHalt: a step that leaves the halt, and a pending enabled interrupt. -/
theorem witness_LeavingHalt :
    in5.cpu.halt = true ∧ step in5 = .next (after in5) ∧ (after in5).cpu.halt = false ∧ in5.cpu.resetLatch = false ∧
      in5.cpu.intDelay = false ∧ in5.cpu.fI = true ∧ isTaken in5.bus.io .tm :=
  ⟨rfl, step_eq_after (by decide +kernel), by decide +kernel, rfl, rfl, rfl, in5_taken⟩

/-- InterruptCheckAndEntry: the delay; the three ways of no entry; an entry. -/
theorem witness_InterruptCheckAndEntry :
    ({ in5 with cpu := { in5.cpu with intDelay := true } } : State).cpu.intDelay = true ∧
    (State.reset.cpu.intDelay = false ∧ State.reset.cpu.fI = false ∧ ∀ src, ¬ isPending State.reset.bus.io src) ∧
    (let s := { in8 with params := { in8.params with psetMasksInterrupt := true } }
     s.cpu.intDelay = false ∧ s.params.psetMasksInterrupt = true) ∧
    (in5.cpu.intDelay = false ∧ in5.cpu.fI = true ∧ ¬ (in5.params.psetMasksInterrupt = true ∧ false = true) ∧
      isTaken in5.bus.io .tm) := by
  refine ⟨rfl, ⟨rfl, rfl, ?_⟩, ⟨rfl, rfl⟩, ⟨rfl, rfl, by decide, in5_taken⟩⟩
  intro src h
  cases src <;> revert h <;> simp [isPending, State.reset, State.construct, Io.reset]

/-- The state of V-IN2 with EI at its program counter. -/
def eiState : State := in2.withFetchWord 16 0xF48

/-- EnableDelay. -/
theorem witness_EnableDelay :
    eiState.cpu.resetLatch = false ∧ eiState.cpu.halt = false ∧ eiState.cpu.fI = false ∧
      exec (decode (fetch eiState)) eiState = .next (ran (decode (fetch eiState)) eiState) ∧
      (ran (decode (fetch eiState)) eiState).cpu.fI = true ∧ step eiState = .next (after eiState) :=
  ⟨rfl, rfl, rfl, exec_eq_ran _ _, by decide +kernel, step_eq_after (by decide +kernel)⟩

/-- CallReturn: the state right after the push meets the hypotheses. -/
theorem witness_CallReturn :
    let s := at0 { start with sp := 0x01#8 } []
    let u := pushReturn 0x1235#13 s
    MemOk s.bus ∧ u.params = s.params ∧ u.cpu.sp = spDown s.cpu.sp 3 ∧
      ∀ k, k < 3 → peek u.params (stackAddr (spUp u.cpu.sp k)) u.bus =
        peek s.params (stackAddr (spUp u.cpu.sp k)) (pushReturn 0x1235#13 s).bus :=
  ⟨⟨rfl, rfl⟩, rfl, by decide, fun _ _ => rfl⟩

/-- MemoryFrame: an address that no store of the instruction reaches and that it does not read, and one that it reads. -/
theorem witness_MemoryFrame :
    let s := at0 { start with xh := 0x1#4, yh := 0x2#4 } []
    let i := Instr.addRQ .mx .my
    exec i s = .next (ran i s) ∧
      ((∀ w, w ∈ stores i s → storeChanges w 0xF00#12 = false) ∧ ((0xF00#12 : Addr) ∈ reads i s → isFactorAddr 0xF00#12 = false)) ∧
      ((∀ w, w ∈ stores i s → storeChanges w 0x020#12 = false) ∧ (0x020#12 : Addr) ∈ reads i s ∧ isFactorAddr 0x020#12 = false) :=
  ⟨exec_eq_ran _ _, by decide +kernel, by decide +kernel⟩

/-- RegisterFrame. -/
theorem witness_RegisterFrame :
    exec (.acpx .a) State.reset = .next (ran (.acpx .a) State.reset) ∧ Reg.fD ∉ writes State.reset.params (.acpx .a) :=
  ⟨exec_eq_ran _ _, by decide⟩

/-- The reset state with SDF at its program counter. -/
def sdfState : State := State.reset.withFetchWord 16 0xF44

/-- DecimalFlagWriters. -/
theorem witness_DecimalFlagWriters :
    step sdfState = .next (after sdfState) ∧ (after sdfState).cpu.fD ≠ sdfState.cpu.fD :=
  ⟨step_eq_after (by decide +kernel), by decide +kernel⟩

/-- DataMemory: a canonical bus that is not empty, and the first and last address of each region. -/
theorem witness_DataMemory :
    (let b := (wrote 0xECF 0x7 (wrote 0x2FF 0x3 State.reset)).bus
     MemOk b ∧ b.ram = [(0x2FF, 0x3#4)] ∧ b.vram = [(159, 0x7#4)]) ∧
    (∀ n ∈ [0x000, 0x2FF], (BitVec.ofNat 12 n).toNat ≤ 0x2FF) ∧
    (∀ n ∈ [0xE00, 0xE4F], 0xE00 ≤ (BitVec.ofNat 12 n).toNat ∧ (BitVec.ofNat 12 n).toNat ≤ 0xE4F) ∧
    (∀ n ∈ [0xE80, 0xECF], 0xE80 ≤ (BitVec.ofNat 12 n).toNat ∧ (BitVec.ofNat 12 n).toNat ≤ 0xECF) :=
  ⟨⟨⟨by decide +kernel, by decide +kernel⟩, by decide +kernel, by decide +kernel⟩, by decide +kernel, by decide +kernel, by decide +kernel⟩

/-- UnmappedAddresses: the edges of the gaps reach nothing, and their neighbours do reach something (20_memory.md R63 to R67, R72). -/
theorem witness_UnmappedAddresses :
    (∀ n ∈ [0x300, 0xDFF, 0xE50, 0xE7F, 0xED0, 0xEFF, 0xF06, 0xF0F, 0xF16, 0xF1F, 0xF28, 0xF2F, 0xF32, 0xF3F, 0xF43, 0xF4F, 0xF55, 0xF5F,
      0xF64, 0xF6F, 0xF7C, 0xF7F, 0xF80, 0xFFF], regionOf (BitVec.ofNat 12 n) = .unmapped) ∧
    (∀ n ∈ [0x2FF, 0xE00, 0xE4F, 0xE80, 0xECF, 0xF00, 0xF05, 0xF10, 0xF15, 0xF20, 0xF27, 0xF30, 0xF31, 0xF40, 0xF42, 0xF50, 0xF54,
      0xF60, 0xF63, 0xF70, 0xF7B, 0xF7D, 0xF7E], regionOf (BitVec.ofNat 12 n) ≠ .unmapped) := by
  decide +kernel

/-- ReadToAcknowledge: the edges of the factor-flag registers. -/
theorem witness_ReadToAcknowledge :
    isFactorAddr 0xF00#12 = true ∧ isFactorAddr 0xF05#12 = true ∧ isFactorAddr 0xEFF#12 = false ∧ isFactorAddr 0xF06#12 = false := by
  decide +kernel

/-- RegisterReadBack: one address of each clause, with the value that a read returns after 0xF is written to it. -/
theorem witness_RegisterReadBack :
    ((0xF10#12 : Addr) ∈ [0xF10#12, 0xF7E#12] ∧ cell 0xF10 (wrote 0xF10 0xF State.reset) = 0xF#4) ∧
      cell 0xF7E (wrote 0xF7E 0xF State.reset) = 0xF#4 ∧ cell 0xF74 (wrote 0xF74 0xF State.reset) = 0x7#4 ∧
      cell 0xF79 (wrote 0xF79 0xF State.reset) = 0x7#4 ∧ cell 0xF11 (wrote 0xF11 0xF State.reset) = 0x3#4 ∧
      cell 0xF77 (wrote 0xF77 0xF State.reset) = 0x2#4 ∧ cell 0xF76 (wrote 0xF76 0xF State.reset) = 0x0#4 ∧
      cell 0xF12 (wrote 0xF12 0xF State.reset) = 0x1#4 ∧ cell 0xF78 (wrote 0xF78 0xF State.reset) = 0x1#4 ∧
      cell 0xF75 (wrote 0xF75 0xF State.reset) = 0xF#4 ∧ wrote 0xF20 0xF State.reset = State.reset ∧
      wrote 0xF42 0xF State.reset = State.reset ∧ isFactorAddr 0xF20 = false ∧ cell 0xF42 State.reset = 0xF#4 := by
  decide +kernel

/-- SerialPort: the four states of the write mask that its clauses name. -/
theorem witness_SerialPort :
    (wrote 0xF31 0x5 State.reset).bus.io.sioMask.getLsbD 1 = true ∧ State.reset.bus.io.sioMask.getLsbD 1 = false ∧
      (wrote 0xF30 0xA State.reset).bus.io.sioMask.getLsbD 0 = true ∧ State.reset.bus.io.sioMask.getLsbD 0 = false := by
  decide +kernel

/-- PortRelatch: an input, an output by IOC, the dedicated port 3 in both directions, two ports that differ, and the least
port number outside the range. -/
theorem witness_PortRelatch :
    (1 : Fin 4) ≠ 0 ∧ 4 ≤ 4 ∧ setLinkedPortDrive 4 (some 0) State.reset = State.reset ∧ getPortDrive 4 State.reset = none ∧
    State.reset.bus.io.ioc.getLsbD 0 = false ∧ (wrote 0xF7D 0x1 State.reset).bus.io.ioc.getLsbD 0 = true ∧
      (let p := { defaultParams with port3Dedicated := true }
       portDir p State.reset.bus.io 3 = true ∧ portDir { p with p3DedicatedDir := .input } State.reset.bus.io 3 = false) := by
  decide +kernel

/-- Display: a value of LCD_CTRL for each clause, and a generation that moved and one that did not. -/
theorem witness_Display :
    8 ≤ State.reset.bus.io.lcdCtrl.toNat ∧ (4 ≤ (0x4#4 : Nib).toNat ∧ (0x7#4 : Nib).toNat < 8) ∧ (0x3#4 : Nib).toNat < 4 ∧
      State.reset.bus.displayGeneration = 0 ∧ (wrote 0xF71 0x0 State.reset).bus.displayGeneration ≠ 0 := by
  decide +kernel

/-- BuzzerTimes: a one-shot that runs, and a restarted envelope. -/
theorem witness_BuzzerTimes :
    defaultParams.wf = true ∧
    (let b := (wrote 0xF75 0x8 State.reset).bus
     b.bz.shotActive = true ∧ 0 < b.bz.shotCount) ∧
    (let b := (wrote 0xF54 0x8 (wrote 0xF75 0x1 State.reset)).bus
     b.io.enon = true ∧ tone defaultParams b = true ∧ b.bz.prevRequest = true ∧ b.bz.envLevel.val = 7 ∧
       b.bz.envCount = envStep defaultParams b) := by
  decide +kernel

/-- ClockAdvance: the default parameters are in range, and an advance that runs a tick and one that runs none. -/
theorem witness_ClockAdvance :
    defaultParams.wf = true ∧ (clockAdvance defaultParams 5 State.reset.bus).clk.oscTicks = 1 ∧
      (clockAdvance defaultParams 5 (clockAdvance defaultParams 5 State.reset.bus)).clk.oscTicks = 1 := by
  decide +kernel

/-- DriftBound: the default parameters are in range, and one step from construction costs more than 0. -/
theorem witness_DriftBound : defaultParams.wf = true ∧ 0 < (run 1 (State.construct defaultParams)).1 := by
  decide +kernel

/-- MainTimer: a residual that stays positive and one that runs out. -/
theorem witness_MainTimer : (0 : Rat) < 2 - 1 ∧ State.reset.bus.clk.tmResidual - 1 ≤ 0 := by
  decide +kernel

/-- Stopwatch: legal digits; a residual that stays positive; one that runs out, stopped and running. -/
theorem witness_Stopwatch :
    State.reset.bus.io.swl.toNat ≤ 9 ∧ State.reset.bus.io.swh.toNat ≤ 9 ∧ (0 : Rat) < 2 - 1 ∧
      State.reset.bus.clk.swResidual - 1 ≤ 0 ∧ State.reset.bus.io.swrun = false ∧ (wrote 0xF77 0x2 State.reset).bus.io.swrun = true := by
  decide +kernel

/-- ProgrammableTimer: the three cases of the divider, equal counter and reload data, of 0 and of 2, and a counter of 5 above
its reload data of 2 that runs down to 1, reloads, and runs a period. -/
theorem witness_ProgrammableTimer :
    defaultParams.ptDiv.toList.getD 0 none = none ∧ defaultParams.ptDiv.toList.getD 7 none = some 2 ∧ (0 : Rat) < 2 - 1 ∧
      State.reset.bus.clk.ptResidual - 1 ≤ 0 ∧ State.reset.bus.io.pt = State.reset.bus.io.rd ∧
      (let s := wrote 0xF78 0x3 (wrote 0xF26 0x2 State.reset)
       s.bus.io.pt = s.bus.io.rd ∧ s.bus.io.rd = 0x02#8) ∧
      (let io := (wrote 0xF26 0x2 (wrote 0xF78 0x3 (wrote 0xF26 0x5 State.reset))).bus.io
       io.pt = 0x05#8 ∧ io.rd = 0x02#8 ∧ 4 < 5 ∧ 1 < 2 ∧ (progTimerCount^[4] io).pt = 0x01#8 ∧
         (progTimerCount^[5] io).pt = 0x02#8 ∧ (progTimerCount^[6] io).pt = 0x01#8 ∧ (progTimerCount^[7] io).pt = 0x02#8) := by
  decide +kernel

/-- RunForCycles: a target of 0, and a run of two steps to a target of 6. -/
theorem witness_RunForCycles :
    (0 : Int) ≤ 0 ∧ (0 : Int) < 6 ∧ runForCycles 2 6 State.reset = some (.next (10, after (after State.reset))) ∧
      ((6 : Int) ≤ (run 2 State.reset).1 ∧ ∀ m, m < 2 → ((run m State.reset).1 : Int) < 6) ∧
      (0 < State.reset.params.undefCycles ∧ 0 < State.reset.params.haltStepCycles ∧ (2 : Int) ≤ (2 : Nat)) := by
  have h1 : step State.reset = .next (after State.reset) := step_eq_after (by decide +kernel)
  have h2 : step (after State.reset) = .next (after (after State.reset)) := step_eq_after (by decide +kernel)
  have c1 : (after State.reset).cost = 5 := by decide +kernel
  have c2 : (after (after State.reset)).cost = 5 := by decide +kernel
  refine ⟨le_refl 0, by decide, ?_, ⟨?_, ?_⟩, by decide +kernel⟩
  · simp [runForCycles, runLoop, h1, h2, c1, c2]
  · simp [run, c1, c2]
  · intro m h
    obtain rfl | rfl : m = 0 ∨ m = 1 := by omega
    · simp [run]
    · simp [run, c1]

/-- KPortEdges: the least pin and the least level outside the ranges, and what a call with them and with another port gives. -/
theorem witness_KPortEdges :
    4 ≤ 4 ∧ 2 ≤ 2 ∧ setPin .k1 4 0 State.reset = State.reset ∧ setPin .k0 3 2 State.reset = State.reset ∧
      setPin (.other 9) 0 0 State.reset = State.reset ∧ releasePin (.other 9) 0 State.reset = State.reset := by
  decide +kernel

/-- RotateResults: two selectors that differ. -/
theorem witness_RotateResults : Sel.my ≠ Sel.a ∧ decode 0xAF3#12 = .undefined 0xAF3#12 := by
  decide +kernel

/-- Reset: a display that changed and one that did not, a tone that is active high, and one that is active low with another
last event and with the same. -/
theorem witness_Reset :
    (wrote 0xF71 0x0 State.reset).bus.io.lcdCtrl ≠ 0x8#4 ∧
      ¬ ((∃ i, i < 160 ∧ Memory.read State.reset.bus.vram i ≠ 0#4) ∨ State.reset.bus.io.lcdCtrl ≠ 0x8#4) ∧
      State.reset.params.bzActiveLow = false ∧
      (let s := { State.reset with params := { defaultParams with bzActiveLow := true } }
       let e : BuzzerEvent := ⟨true, s.params.oscHz / s.params.bzDiv[0], 1⟩
       s.bus.bz.lastEvent ≠ e ∧ (resetOp s).bus.bz.lastEvent = e) := by
  refine ⟨by decide +kernel, ?_, rfl, by decide +kernel, by decide +kernel⟩
  rintro (⟨i, _, h⟩ | h)
  · exact h rfl
  · exact h rfl

/-- InvariantAfterReset: parameters in their ranges with a tone that is active high. -/
theorem witness_InvariantAfterReset : defaultParams.wf = true ∧ defaultParams.bzActiveLow = false := by
  decide +kernel

/-- StepKeepsInvariant: the reset state meets the invariant's parts that evaluate, and its step goes on. -/
theorem witness_StepKeepsInvariant :
    State.reset.params.wf = true ∧ CoreOk State.reset.cpu ∧ MemOk State.reset.bus ∧ PortsOk State.reset.params State.reset.bus ∧
      BuzzerOk State.reset.params State.reset.bus ∧ CountersOk State.reset.bus ∧ ClockOk State.reset.params State.reset.bus ∧
      DiagOk State.reset.diag ∧ step State.reset = .next (after State.reset) :=
  ⟨by decide +kernel, ⟨rfl, rfl⟩, ⟨rfl, rfl⟩, by unfold PortsOk; decide +kernel, ⟨by decide +kernel, by decide +kernel⟩,
    by unfold CountersOk; decide +kernel, by unfold ClockOk; decide +kernel, rfl, step_eq_after (by decide +kernel)⟩

end Sys2Proof.Tests
end

section
/-! Which registers, flags and latches an instruction writes (10_state.md R28): one lemma per shared operation, one per instruction
shape, and the frame of every instruction assembled from them. -/

namespace Sys2Proof.Machine

open Sys2Proof.Safety

/-- From `c` to `d` at most `PC` and the registers, flags and latches of `l` change. -/
def WritesOnly (l : List Reg) (c d : Cpu) : Prop := ∀ k, k ∉ l → regValue d k = regValue c k

theorem regValue_withPc (c : Cpu) (x : PcWord) (k : Reg) : regValue { c with pc := x } k = regValue c k := by
  cases k <;> rfl

theorem WritesOnly.mono {l m : List Reg} {c d : Cpu} (h : WritesOnly l c d) (hlm : l ⊆ m) : WritesOnly m c d :=
  fun k hk => h k fun hl => hk (hlm hl)

theorem WritesOnly.trans {l m : List Reg} {c d e : Cpu} (h1 : WritesOnly l c d) (h2 : WritesOnly m d e) :
    WritesOnly (l ++ m) c e := by
  intro k hk
  rw [List.mem_append, not_or] at hk
  exact (h2 k hk.2).trans (h1 k hk.1)

/-- `PC` is in no list: the advance after an operation adds nothing to what the operation writes. -/
theorem WritesOnly.advance {l : List Reg} {c : Cpu} {s : State} (h : WritesOnly l c s.cpu) (n : Nat) :
    WritesOnly l c (advance n s).cpu :=
  fun k hk => (regValue_withPc s.cpu _ k).trans (h k hk)

/-- Reading an operand leaves the core alone. -/
theorem WritesOnly.after_opnd {l : List Reg} {r : Sel} {s : State} {d : Cpu} (h : WritesOnly l (opnd r s).2.cpu d) :
    WritesOnly l s.cpu d :=
  opnd_cpu r s ▸ h

/-- Reading two operands leaves the core alone. -/
theorem WritesOnly.after_opnds {l : List Reg} {r q : Sel} {s : State} {d : Cpu} (h : WritesOnly l (opnds r q s).2.2.cpu d) :
    WritesOnly l s.cpu d :=
  opnds_cpu r q s ▸ h

/-! ## The shared operations -/

theorem writesOnly_pc (x : PcWord) (c : Cpu) : WritesOnly [] c { c with pc := x } := fun k _ => regValue_withPc c x k

theorem writesOnly_sp (v : Byte) (c : Cpu) : WritesOnly [.sp] c { c with sp := v } := by
  intro k hk
  cases k <;> simp_all [regValue]

theorem writesOnly_setOpnd (r : Sel) (v : Nib) (s : State) : WritesOnly (selReg r) s.cpu (setOpnd r v s).cpu := by
  intro k hk
  cases r
  case a => cases k <;> simp_all [regValue, selReg]
  case b => cases k <;> simp_all [regValue, selReg]
  case mx => rfl
  case my => rfl

theorem writesOnly_setCZ (x : Nib × Bool) (s : State) : WritesOnly [.fC, .fZ] s.cpu (setCZ x s).cpu := by
  intro k hk
  cases k <;> simp_all [regValue]

theorem writesOnly_setZ (v : Nib) (s : State) : WritesOnly [.fZ] s.cpu (setZ v s).cpu := by
  intro k hk
  cases k <;> simp_all [regValue]

/-- A rotate writes Z only with `ROT_WRITES_Z` (47_arith.md R273, R274). -/
theorem writesOnly_setRotFlags (x : Nib × Bool) (s : State) :
    WritesOnly (if s.params.rotWritesZ then [.fC, .fZ] else [.fC]) s.cpu (setRotFlags x s).cpu := by
  intro k hk
  cases hz : s.params.rotWritesZ <;> cases k <;> simp_all [regValue]

theorem writesOnly_setX (v : Byte) (c : Cpu) : WritesOnly [.xh, .xl] c (c.setX v) := by
  intro k hk
  cases k <;> simp_all [regValue, Cpu.setX]

theorem writesOnly_setY (v : Byte) (c : Cpu) : WritesOnly [.yh, .yl] c (c.setY v) := by
  intro k hk
  cases k <;> simp_all [regValue, Cpu.setY]

theorem writesOnly_incX (s : State) : WritesOnly [.xh, .xl] s.cpu (incX s).cpu := writesOnly_setX _ s.cpu

theorem writesOnly_incY (s : State) : WritesOnly [.yh, .yl] s.cpu (incY s).cpu := writesOnly_setY _ s.cpu

/-- The register that an index nibble is. -/
def ixReg : IxNib → Reg
  | .xp => .xp
  | .xh => .xh
  | .xl => .xl
  | .yp => .yp
  | .yh => .yh
  | .yl => .yl

theorem writesOnly_setIx (j : IxNib) (v : Nib) (s : State) : WritesOnly [ixReg j] s.cpu (setIx j v s).cpu := by
  intro k hk
  cases j <;> cases k <;> simp_all [regValue, ixReg, Cpu.setIx]

theorem writesOnly_popReturn (s : State) : WritesOnly [.sp] s.cpu (popReturn s).cpu := by
  rw [popReturn_eq]
  exact (writesOnly_sp (spUp s.cpu.sp 3) s.cpu).trans (writesOnly_pc (returnPc s) _)

theorem writesOnly_storeByteX (e : Byte) (s : State) : WritesOnly [.xh, .xl] s.cpu (storeByteX e s).cpu :=
  ((writesOnly_setX _ s.cpu).trans (writesOnly_setX _ _)).mono (by simp)

/-! ## The instruction shapes -/

theorem writesOnly_condJump (c : Bool) (e : Byte) (s : State) : WritesOnly [] s.cpu (condJump c e s).cpu := by
  unfold condJump
  split
  · exact writesOnly_pc _ s.cpu
  · exact writesOnly_pc _ s.cpu

theorem writesOnly_callTo (page : Nib) (e : Byte) (s : State) : WritesOnly [.sp] s.cpu (callTo page e s).cpu :=
  (writesOnly_sp _ s.cpu).trans (writesOnly_pc _ _)

theorem writesOnly_resultCZ (r : Sel) (x : Nib × Bool) (n : Nat) (s : State) :
    WritesOnly (selReg r ++ [.fC, .fZ]) s.cpu (resultCZ r x n s).cpu :=
  ((writesOnly_setOpnd r x.1 s).trans (writesOnly_setCZ x _)).advance n

theorem writesOnly_resultZ (r : Sel) (v : Nib) (n : Nat) (s : State) :
    WritesOnly (selReg r ++ [.fZ]) s.cpu (resultZ r v n s).cpu :=
  ((writesOnly_setOpnd r v s).trans (writesOnly_setZ v _)).advance n

theorem writesOnly_arithImm (f : Nib → Nib → Nib × Bool) (r : Sel) (i : Nib) (s : State) :
    WritesOnly (selReg r ++ [.fC, .fZ]) s.cpu (arithImm f r i s).cpu :=
  (writesOnly_resultCZ r _ 7 (opnd r s).2).after_opnd

theorem writesOnly_arithOpnd (f : Nib → Nib → Nib × Bool) (r q : Sel) (s : State) :
    WritesOnly (selReg r ++ [.fC, .fZ]) s.cpu (arithOpnd f r q s).cpu :=
  (writesOnly_resultCZ r _ 7 (opnds r q s).2.2).after_opnds

theorem writesOnly_logicImm (f : Nib → Nib → Nib) (r : Sel) (i : Nib) (s : State) :
    WritesOnly (selReg r ++ [.fZ]) s.cpu (logicImm f r i s).cpu :=
  (writesOnly_resultZ r _ 7 (opnd r s).2).after_opnd

theorem writesOnly_logicOpnd (f : Nib → Nib → Nib) (r q : Sel) (s : State) :
    WritesOnly (selReg r ++ [.fZ]) s.cpu (logicOpnd f r q s).cpu :=
  (writesOnly_resultZ r _ 7 (opnds r q s).2.2).after_opnds

theorem writesOnly_rotate (f : Nib → Bool → Nib × Bool) (r : Sel) (n : Nat) (s : State) :
    WritesOnly (selReg r ++ (if s.params.rotWritesZ then [.fC, .fZ] else [.fC])) s.cpu (rotate f r n s).cpu := by
  have h := (writesOnly_setOpnd r (f (opnd r s).1 s.cpu.fC).1 (opnd r s).2).trans
    (writesOnly_setRotFlags (f (opnd r s).1 s.cpu.fC) _)
  rw [setOpnd_params, opnd_params] at h
  exact (h.advance n).after_opnd

theorem writesOnly_countMem (f : Nib → Nib × Bool) (n : Nib) (s : State) : WritesOnly [.fC, .fZ] s.cpu (countMem f n s).cpu :=
  (writesOnly_setCZ _ (memWrite _ _ (memRead (nibAddr n) s).2)).advance 7

/-- A multi-digit form writes C, Z and what its index count writes: its result goes to memory (47_arith.md R277 to R280). -/
theorem writesOnly_digitOp (f : Nib → Nib → Nib × Bool) {m : Sel} (r : Sel) {inc : State → State} {l : List Reg} (hm : selReg m = [])
    (hinc : ∀ s, WritesOnly l s.cpu (inc s).cpu) (s : State) :
    WritesOnly (l ++ [.fC, .fZ]) s.cpu (digitOp f m r inc s).cpu := by
  let y := f (opnds m r s).1 (opnds m r s).2.1
  have h := ((writesOnly_setOpnd m y.1 (opnds m r s).2.2).trans (writesOnly_setCZ y _)).trans (hinc _)
  rw [hm] at h
  exact ((h.mono (by simp)).advance 7).after_opnds

theorem writesOnly_loadIx (k : IxNib) (r : Sel) (s : State) : WritesOnly [ixReg k] s.cpu (loadIx k r s).cpu :=
  ((writesOnly_setIx k _ (opnd r s).2).advance 5).after_opnd

theorem writesOnly_addIx (k : IxNib) (i : Nib) (s : State) : WritesOnly [ixReg k, .fC, .fZ] s.cpu (addIx k i s).cpu :=
  ((writesOnly_setIx k _ s).trans (writesOnly_setCZ _ _)).advance 7

theorem writesOnly_popIx (k : IxNib) (s : State) : WritesOnly [ixReg k, .sp] s.cpu (popIx k s).cpu :=
  (((writesOnly_sp _ s.cpu).trans (writesOnly_setIx k _ (pop s).2)).mono (by simp)).advance 5

theorem writesOnly_moveOpnd (r q : Sel) (s : State) : WritesOnly (selReg r) s.cpu (moveOpnd r q s).cpu :=
  (writesOnly_setOpnd r _ (opnd q s).2).after_opnd

/-! ## The flag instructions -/

/-- The flags whose bits are set in `i` (10_state.md R27). -/
def flagRegs (i : Nib) : List Reg :=
  (if i.getLsbD 0 then [.fC] else []) ++ (if i.getLsbD 1 then [.fZ] else []) ++
    (if i.getLsbD 2 then [.fD] else []) ++ (if i.getLsbD 3 then [.fI] else [])

theorem flagRegs_subset (i : Nib) : flagRegs i ⊆ [.fC, .fZ, .fD, .fI] := by revert i; decide +kernel

/-- The flag register as a nibble, bit by bit (10_state.md R27). -/
theorem flags_getLsbD (c : Cpu) :
    c.flags.getLsbD 0 = c.fC ∧ c.flags.getLsbD 1 = c.fZ ∧ c.flags.getLsbD 2 = c.fD ∧ c.flags.getLsbD 3 = c.fI := by
  unfold Cpu.flags
  generalize c.fC = x, c.fZ = y, c.fD = z, c.fI = w
  revert x y z w
  decide

/-- SET F writes only the flags set in its operand (45_flag.md R220). -/
theorem writesOnly_setFlagBits (i : Nib) (s : State) : WritesOnly (flagRegs i) s.cpu (setFlagBits i s).cpu := by
  obtain ⟨hC, hZ, hD, hI⟩ := flags_getLsbD s.cpu
  refine WritesOnly.advance ?_ 7
  intro k hk
  cases k <;> simp_all [regValue, Cpu.setFlags, flagRegs]

/-- RST F writes only the flags clear in its operand (45_flag.md R221). -/
theorem writesOnly_keepFlagBits (i : Nib) (s : State) : WritesOnly (flagRegs (~~~i)) s.cpu (keepFlagBits i s).cpu := by
  obtain ⟨hC, hZ, hD, hI⟩ := flags_getLsbD s.cpu
  refine WritesOnly.advance ?_ 7
  intro k hk
  cases k <;> simp_all [regValue, Cpu.setFlags, flagRegs]

theorem writesOnly_setFlags (v : Nib) (c : Cpu) : WritesOnly [.fC, .fZ, .fD, .fI] c (c.setFlags v) := by
  intro k hk
  cases k <;> simp_all [regValue, Cpu.setFlags]

theorem writesOnly_haltCore (s : State) : WritesOnly [.halt] s.cpu (haltCore s).cpu := by
  intro k hk
  cases k <;> simp_all [regValue, haltCore]

theorem writesOnly_npc (pc npc : PcWord) (c : Cpu) : WritesOnly [.npc] c { c with pc := pc, npc := npc } := by
  intro k hk
  cases k <;> simp_all [regValue]

/-! ## Every instruction -/

/-- Every instruction writes at most the registers of its rule (10_state.md R28). -/
theorem exec_writesOnly (i : Instr) (s t : State) (h : exec i s = .next t) : WritesOnly (writes s.params i) s.cpu t.cpu := by
  cases i <;> injection h with h <;> subst h
  case jp | jpba | undefined | nop5 | nop7 | ldMA | ldMB => exact writesOnly_pc _ s.cpu
  case jpC | jpNC | jpZ | jpNZ => exact writesOnly_condJump _ _ s
  case pset => exact writesOnly_npc _ _ s.cpu
  case call | calz => exact writesOnly_callTo _ _ s
  case ret => exact writesOnly_popReturn s
  case rets => exact (writesOnly_popReturn s).advance 12
  case retd e => exact (writesOnly_popReturn s).trans (writesOnly_storeByteX e (popReturn s))
  case lbpx => exact (writesOnly_storeByteX _ s).advance 5
  case addRI | adcRI | sbcRI => exact writesOnly_arithImm _ _ _ s
  case addRQ | adcRQ | subRQ | sbcRQ => exact writesOnly_arithOpnd _ _ _ s
  case andRI | orRI | xorRI => exact writesOnly_logicImm _ _ _ s
  case notA => exact writesOnly_logicImm _ .a _ s
  case notB => exact writesOnly_logicImm _ .b _ s
  case notMX => exact writesOnly_logicImm _ .mx _ s
  case notMY => exact writesOnly_logicImm _ .my _ s
  case andRQ | orRQ | xorRQ => exact writesOnly_logicOpnd _ _ _ s
  case cpRI r _ => exact ((writesOnly_setCZ _ (opnd r s).2).advance 7).after_opnd
  case cpRQ r q => exact ((writesOnly_setCZ _ (opnds r q s).2.2).advance 7).after_opnds
  case fanRI r _ => exact ((writesOnly_setZ _ (opnd r s).2).advance 7).after_opnd
  case fanRQ r q => exact ((writesOnly_setZ _ (opnds r q s).2.2).advance 7).after_opnds
  case rlc | rrc => exact writesOnly_rotate _ _ _ s
  case incM | decM => exact writesOnly_countMem _ _ s
  case acpx | scpx => exact writesOnly_digitOp (m := .mx) _ _ rfl writesOnly_incX s
  case acpy | scpy => exact writesOnly_digitOp (m := .my) _ _ rfl writesOnly_incY s
  case cpXH | cpXL | cpYH | cpYL => exact (writesOnly_setCZ _ s).advance 7
  case adcXH => exact writesOnly_addIx .xh _ s
  case adcXL => exact writesOnly_addIx .xl _ s
  case adcYH => exact writesOnly_addIx .yh _ s
  case adcYL => exact writesOnly_addIx .yl _ s
  case ldX => exact (writesOnly_setX _ s.cpu).advance (s := { s with cpu := s.cpu.setX _ }) 5
  case ldY => exact (writesOnly_setY _ s.cpu).advance (s := { s with cpu := s.cpu.setY _ }) 5
  case ldXP => exact writesOnly_loadIx .xp _ s
  case ldXH => exact writesOnly_loadIx .xh _ s
  case ldXL => exact writesOnly_loadIx .xl _ s
  case ldYP => exact writesOnly_loadIx .yp _ s
  case ldYH => exact writesOnly_loadIx .yh _ s
  case ldYL => exact writesOnly_loadIx .yl _ s
  case ldRI | ldRXP | ldRXH | ldRXL | ldRYP | ldRYH | ldRYL | ldRSPH | ldRSPL => exact (writesOnly_setOpnd _ _ s).advance 5
  case ldRQ => exact (writesOnly_moveOpnd _ _ s).advance 5
  case ldAM n => exact (writesOnly_setOpnd .a _ (memRead (nibAddr n) s).2).advance 5
  case ldBM n => exact (writesOnly_setOpnd .b _ (memRead (nibAddr n) s).2).advance 5
  case ldpxI i => exact (writesOnly_incX (setOpnd .mx i s)).advance 5
  case ldpyI i => exact (writesOnly_incY (setOpnd .my i s)).advance 5
  case incX => exact (writesOnly_incX (moveOpnd .a .a s)).advance 5
  case incY => exact (writesOnly_incY (moveOpnd .a .a s)).advance 5
  case ldpxRQ r q => exact ((writesOnly_moveOpnd r q s).trans (writesOnly_incX _)).advance 5
  case ldpyRQ r q => exact ((writesOnly_moveOpnd r q s).trans (writesOnly_incY _)).advance 5
  case setF => exact (writesOnly_setFlagBits _ s).mono (flagRegs_subset _)
  case rstF => exact (writesOnly_keepFlagBits _ s).mono (flagRegs_subset _)
  case scf => exact writesOnly_setFlagBits 0x1#4 s
  case szf => exact writesOnly_setFlagBits 0x2#4 s
  case sdf => exact writesOnly_setFlagBits 0x4#4 s
  case ei => exact writesOnly_setFlagBits 0x8#4 s
  case rcf => exact writesOnly_keepFlagBits 0xE#4 s
  case rzf => exact writesOnly_keepFlagBits 0xD#4 s
  case rdf => exact writesOnly_keepFlagBits 0xB#4 s
  case di => exact writesOnly_keepFlagBits 0x7#4 s
  case push r => exact ((writesOnly_sp _ (opnd r s).2.cpu).trans (writesOnly_pc _ _)).after_opnd
  case pushXP | pushXH | pushXL | pushYP | pushYH | pushYL | pushF | incSP | decSP =>
    exact (writesOnly_sp _ s.cpu).trans (writesOnly_pc _ _)
  case ldSPH r => exact ((writesOnly_sp _ (opnd r s).2.cpu).trans (writesOnly_pc _ _)).after_opnd
  case ldSPL r => exact ((writesOnly_sp _ (opnd r s).2.cpu).trans (writesOnly_pc _ _)).after_opnd
  case pop => exact ((writesOnly_sp _ s.cpu).trans (writesOnly_setOpnd _ _ (pop s).2)).advance 5
  case popXP => exact writesOnly_popIx .xp s
  case popXH => exact writesOnly_popIx .xh s
  case popXL => exact writesOnly_popIx .xl s
  case popYP => exact writesOnly_popIx .yp s
  case popYH => exact writesOnly_popIx .yh s
  case popYL => exact writesOnly_popIx .yl s
  case popF =>
    exact ((writesOnly_sp _ s.cpu).trans (writesOnly_setFlags _ (pop s).2.cpu)).advance
      (s := { (pop s).2 with cpu := (pop s).2.cpu.setFlags (pop s).1 }) 5
  case halt | slp => exact writesOnly_haltCore s

/-- Settles O36: the frame that `exec_writesOnly` gives each instruction. -/
theorem registerFrame : Obligations.RegisterFrame := by
  unfold Obligations.RegisterFrame
  intro i s t k h hk
  exact exec_writesOnly i s t h k hk

end Sys2Proof.Machine
end

section
/-! The devices' part of the invariant: ports latched, buzzer output current, counters in their ranges (20_memory.md R78,
60_exceptions.md R335, R351, R352, R355). Every read, every write and every oscillator tick keeps it. -/

namespace Sys2Proof.Machine

open Sys2Proof.Safety

/-! ## The ranges of the parameters (00_scope.md R9) -/

/-- The ranges that the invariant's proof uses. -/
theorem wf_ranges {p : Params} (h : p.wf = true) :
    0 < p.cpuHz ∧ 0 < p.oscHz ∧ 1 ≤ p.clkTimerDiv ∧ 1 ≤ p.swDiv ∧ (∀ d, some d ∈ p.ptDiv.toList → 1 ≤ d) ∧
      (∀ n ∈ p.envStepTicks.toList, 0 < n) ∧ (∀ n ∈ p.shotTicks.toList, 0 < n) := by
  simp only [Params.wf, Bool.and_eq_true, decide_eq_true_eq, List.all_eq_true] at h
  obtain ⟨⟨⟨⟨⟨⟨⟨⟨hcpu, hosc⟩, -⟩, htm⟩, hsw⟩, hpt⟩, -⟩, henv⟩, hshot⟩ := h
  exact ⟨hcpu, hosc, htm, hsw, fun d hd => by simpa using hpt _ hd, henv, hshot⟩

/-- `DIV` is positive (60_exceptions.md R320). -/
theorem oscDiv_pos {p : Params} (h : p.wf = true) : 0 < oscDiv p := by
  obtain ⟨hcpu, hosc, -⟩ := wf_ranges h
  exact div_pos hcpu hosc

/-- A clock selected for the programmable timer divides by at least 1 (60_exceptions.md R341). -/
theorem one_le_of_ptDivider {p : Params} {io : Io} {d : Rat} (h : p.wf = true) (hd : ptDivider p io = some d) : 1 ≤ d := by
  obtain ⟨-, -, -, -, hpt, -⟩ := wf_ranges h
  refine hpt d ?_
  rw [← hd]
  simp [ptDivider]

/-- An envelope level lasts at least one tick (60_exceptions.md R353). -/
theorem envStep_pos {p : Params} (h : p.wf = true) (b : Bus) : 0 < envStep p b := by
  obtain ⟨-, -, -, -, -, henv, -⟩ := wf_ranges h
  exact henv _ (by simp [envStep])

/-- A one-shot pulse lasts at least one tick (60_exceptions.md R354). -/
theorem shotTicks_pos {p : Params} (h : p.wf = true) (n : Nat) (hn : n < 2) : 0 < p.shotTicks[n] := by
  obtain ⟨-, -, -, -, -, -, hshot⟩ := wf_ranges h
  exact hshot _ (by simp)

/-! ## The parts of the invariant and what they read -/

/-- The digits of the stopwatch are 0 to 9 and the serial write mask is not full (60_exceptions.md R335, 20_memory.md R75). -/
def DigitsOk (io : Io) : Prop := io.swl.toNat ≤ 9 ∧ io.swh.toNat ≤ 9 ∧ io.sioMask ≠ 3#2

/-- A one-shot counts while it is active, and the envelope counts while its level is not 0 (60_exceptions.md R355). -/
def CountsOk (z : Buzzer) : Prop := (z.shotActive = true ↔ 0 < z.shotCount) ∧ (0 < z.envLevel.val → 0 < z.envCount)

theorem countersOk_iff (b : Bus) : CountersOk b ↔ DigitsOk b.io ∧ CountsOk b.bz := by
  simp only [CountersOk, DigitsOk, CountsOk, and_assoc]

/-- The devices' part of the invariant. -/
def DevicesOk (p : Params) (b : Bus) : Prop := PortsOk p b ∧ BuzzerOk p b ∧ CountersOk b

/-- Two I/O states agree on the P ports and their directions (20_memory.md R78). -/
def SamePorts (x y : Io) : Prop := x.p0 = y.p0 ∧ x.p1 = y.p1 ∧ x.p2 = y.p2 ∧ x.p3 = y.p3 ∧ x.ioc = y.ioc

/-- Two I/O states agree on the stopwatch digits and the serial write mask. -/
def SameDigits (x y : Io) : Prop := x.swl = y.swl ∧ x.swh = y.swh ∧ x.sioMask = y.sioMask

/-- `Relatch()` gives each port its latch and nothing else (20_memory.md R78). -/
theorem portsOk_iff (p : Params) (b : Bus) :
    PortsOk p b ↔ b.io.p0.latch (portDir p b.io 0) = b.io.p0 ∧ b.io.p1.latch (portDir p b.io 1) = b.io.p1 ∧
      b.io.p2.latch (portDir p b.io 2) = b.io.p2 ∧ b.io.p3.latch (portDir p b.io 3) = b.io.p3 := by
  constructor
  · intro h
    have h : relatch p b.io = b.io := h
    exact ⟨congrArg Io.p0 h, congrArg Io.p1 h, congrArg Io.p2 h, congrArg Io.p3 h⟩
  · rintro ⟨h0, h1, h2, h3⟩
    simp only [PortsOk, relatch, h0, h1, h2, h3]

theorem portsOk_of_same {p : Params} {b c : Bus} (h : SamePorts c.io b.io) (hb : PortsOk p b) : PortsOk p c := by
  obtain ⟨h0, h1, h2, h3, hioc⟩ := h
  have hdir : ∀ n, portDir p c.io n = portDir p b.io n := fun n => by simp only [portDir, hioc]
  rw [portsOk_iff] at hb ⊢
  simpa only [hdir, h0, h1, h2, h3] using hb

theorem buzzerRequest_of_same {p : Params} {b c : Bus} (h : SameBuzzerBits c.io b.io) (hz : c.bz.shotActive = b.bz.shotActive) :
    buzzerRequest p c = buzzerRequest p b := by
  simp only [buzzerRequest, tone, h.1, hz]

theorem buzzerEvent_of_same {p : Params} {b c : Bus} (h : SameBuzzerBits c.io b.io) (ha : c.bz.shotActive = b.bz.shotActive)
    (hl : c.bz.envLevel = b.bz.envLevel) : buzzerEvent p c = buzzerEvent p b := by
  have ⟨_, hn, _, hf⟩ := h
  simp only [buzzerEvent, buzzerRequest_of_same h ha, buzzerGain, buzzerHz, hn, hf, hl]

theorem buzzerOk_of_same {p : Params} {b c : Bus} (h : SameBuzzerBits c.io b.io) (hz : c.bz = b.bz) (hb : BuzzerOk p b) :
    BuzzerOk p c := by
  obtain ⟨hreq, hev⟩ := hb
  exact ⟨by rw [hz, hreq, buzzerRequest_of_same h (by rw [hz])],
    by rw [hz, hev, buzzerEvent_of_same h (by rw [hz]) (by rw [hz])]⟩

theorem digitsOk_of_same {x y : Io} (h : SameDigits x y) (hy : DigitsOk y) : DigitsOk x := by
  obtain ⟨hl, hh, hm⟩ := h
  simpa only [DigitsOk, hl, hh, hm] using hy

/-- A change of nothing the devices' part reads keeps it. -/
theorem devicesOk_of_same {p : Params} {b c : Bus} (hp : SamePorts c.io b.io) (hq : SameBuzzerBits c.io b.io)
    (hd : SameDigits c.io b.io) (hz : c.bz = b.bz) (hb : DevicesOk p b) : DevicesOk p c := by
  obtain ⟨hports, hbuzzer, hcounters⟩ := hb
  obtain ⟨hdigits, hcounts⟩ := (countersOk_iff b).mp hcounters
  exact ⟨portsOk_of_same hp hports, buzzerOk_of_same hq hz hbuzzer,
    (countersOk_iff c).mpr ⟨digitsOk_of_same hd hdigits, hz ▸ hcounts⟩⟩

/-! ## The ports -/

/-- Latching a port twice latches it once. -/
theorem latch_latch (q : PPort) (out : Bool) : (q.latch out).latch out = q.latch out := by cases out <;> rfl

/-- What `Relatch()` leaves is latched (20_memory.md R78). -/
theorem portsOk_relatch (p : Params) (io : Io) (b : Bus) : PortsOk p { b with io := relatch p io } := by
  rw [portsOk_iff]
  exact ⟨latch_latch _ _, latch_latch _ _, latch_latch _ _, latch_latch _ _⟩

/-- A change of the ports' latches and directions that ends in `Relatch()` keeps the devices' part. -/
theorem devicesOk_relatch {p : Params} {io : Io} {b : Bus} (hq : SameBuzzerBits io b.io) (hd : SameDigits io b.io)
    (hb : DevicesOk p b) : DevicesOk p { b with io := relatch p io } := by
  obtain ⟨-, hbuzzer, hcounters⟩ := hb
  obtain ⟨hdigits, hcounts⟩ := (countersOk_iff b).mp hcounters
  exact ⟨portsOk_relatch p io b, buzzerOk_of_same (b := b) hq rfl hbuzzer,
    (countersOk_iff _).mpr ⟨digitsOk_of_same (y := b.io) hd hdigits, hcounts⟩⟩

theorem devicesOk_portWrite {p : Params} {b : Bus} (n : Fin 4) (v : Nib) (hb : DevicesOk p b) :
    DevicesOk p { b with io := portWrite p n v b.io } := by
  have hq : SameBuzzerBits (b.io.setPort n { b.io.port n with pd := v }) b.io := by fin_cases n <;> exact ⟨rfl, rfl, rfl, rfl⟩
  have hd : SameDigits (b.io.setPort n { b.io.port n with pd := v }) b.io := by fin_cases n <;> exact ⟨rfl, rfl, rfl⟩
  exact devicesOk_relatch hq hd hb

/-! ## The buzzer -/

/-- `EmitIfChanged()` makes the last event the current one, and changes nothing else of the buzzer (60_exceptions.md R352). -/
theorem emitIfChanged_bz (p : Params) (b : Bus) : (emitIfChanged p b).bz = { b.bz with lastEvent := buzzerEvent p b } := by
  unfold emitIfChanged
  dsimp only
  split
  · next h => rw [h]
  · rfl

theorem buzzerOk_emitIfChanged {p : Params} {b : Bus} (h : b.bz.prevRequest = buzzerRequest p b) :
    BuzzerOk p (emitIfChanged p b) := by
  have hq : SameBuzzerBits (emitIfChanged p b).io b.io := by rw [emitIfChanged_io]; exact ⟨rfl, rfl, rfl, rfl⟩
  have hz := emitIfChanged_bz p b
  have ha : (emitIfChanged p b).bz.shotActive = b.bz.shotActive := by rw [hz]
  have hl : (emitIfChanged p b).bz.envLevel = b.bz.envLevel := by rw [hz]
  exact ⟨by rw [buzzerRequest_of_same hq ha, hz, h], by rw [buzzerEvent_of_same hq ha hl, hz]⟩

/-- `BuzzerUpdate()` makes the request and the event current (60_exceptions.md R351, R352). -/
theorem buzzerOk_buzzerUpdate (p : Params) (b : Bus) : BuzzerOk p (buzzerUpdate p b) := by
  refine buzzerOk_emitIfChanged ?_
  split <;> rfl

theorem countsOk_envRestart {p : Params} {b : Bus} (hw : p.wf = true) (hb : CountsOk b.bz) : CountsOk (envRestart p b).bz :=
  ⟨hb.1, fun _ => envStep_pos hw b⟩

theorem countsOk_buzzerUpdate {p : Params} {b : Bus} (hw : p.wf = true) (hb : CountsOk b.bz) :
    CountsOk (buzzerUpdate p b).bz := by
  unfold buzzerUpdate
  rw [emitIfChanged_bz]
  split
  · exact countsOk_envRestart (b := b) hw hb
  · exact hb

theorem countsOk_shotStart {p : Params} {b : Bus} (hw : p.wf = true) (hb : CountsOk b.bz) : CountsOk (shotStart p b).bz := by
  unfold shotStart
  split
  · exact hb
  · exact ⟨⟨fun _ => shotTicks_pos hw _ (Bool.toNat_lt _), fun _ => rfl⟩, hb.2⟩

/-- A one-shot that counts down to 0 ends (60_exceptions.md R355). -/
theorem countsOk_shotTick {b : Bus} (hb : CountsOk b.bz) : CountsOk (shotTick b).bz := by
  unfold shotTick
  split
  · exact ⟨bne_iff_ne.trans Nat.pos_iff_ne_zero.symm, hb.2⟩
  · exact hb

/-- An envelope count that reaches 0 starts the next level (60_exceptions.md R355). -/
theorem countsOk_envTick {p : Params} {b : Bus} (hw : p.wf = true) (hb : CountsOk b.bz) : CountsOk (envTick p b).bz := by
  unfold envTick
  split
  · dsimp only
    split
    · exact ⟨hb.1, fun _ => envStep_pos hw b⟩
    · next hn => exact ⟨hb.1, fun _ => Nat.pos_of_ne_zero hn⟩
  · exact hb

/-- `BuzzerUpdate()` needs only the other parts to give the whole. -/
theorem devicesOk_buzzerUpdate {p : Params} {b : Bus} (hw : p.wf = true) (hp : PortsOk p b) (hd : DigitsOk b.io)
    (hc : CountsOk b.bz) : DevicesOk p (buzzerUpdate p b) := by
  refine ⟨?_, buzzerOk_buzzerUpdate p b, (countersOk_iff _).mpr ⟨?_, countsOk_buzzerUpdate hw hc⟩⟩
  · simpa only [PortsOk, buzzerUpdate_io] using hp
  · simpa only [buzzerUpdate_io] using hd

theorem devicesOk_bzc1Write {p : Params} {b : Bus} (v : Nib) (hw : p.wf = true) (hb : DevicesOk p b) :
    DevicesOk p (bzc1Write p v b) := by
  obtain ⟨hports, -, hcounters⟩ := hb
  obtain ⟨hdigits, hcounts⟩ := (countersOk_iff b).mp hcounters
  have hp : PortsOk p { b with io := { b.io with bzfq := v.extractLsb' 0 3 } } :=
    portsOk_of_same (b := b) ⟨rfl, rfl, rfl, rfl, rfl⟩ hports
  unfold bzc1Write
  dsimp only
  split
  · exact devicesOk_buzzerUpdate hw hp hdigits (countsOk_envRestart (b := { b with io := _ }) hw hcounts)
  · exact devicesOk_buzzerUpdate hw hp hdigits hcounts

theorem devicesOk_bzc2Write {p : Params} {b : Bus} (v : Nib) (hw : p.wf = true) (hb : DevicesOk p b) :
    DevicesOk p (bzc2Write p v b) := by
  obtain ⟨hports, -, hcounters⟩ := hb
  obtain ⟨hdigits, hcounts⟩ := (countersOk_iff b).mp hcounters
  unfold bzc2Write
  dsimp only
  split
  · refine devicesOk_buzzerUpdate hw ?_ ?_ (countsOk_shotStart hw hcounts)
    · exact portsOk_of_same (b := b) (by rw [shotStart_io]; exact ⟨rfl, rfl, rfl, rfl, rfl⟩) hports
    · exact digitsOk_of_same (y := b.io) (by rw [shotStart_io]; exact ⟨rfl, rfl, rfl⟩) hdigits
  · exact devicesOk_buzzerUpdate hw (portsOk_of_same (b := b) ⟨rfl, rfl, rfl, rfl, rfl⟩ hports) hdigits hcounts

/-! ## Every read and every write -/

/-- The serial output empties a full mask (20_memory.md R75). -/
theorem devicesOk_serialWrite {p : Params} {b : Bus} (d : Byte) (m : BitVec 2) (hb : DevicesOk p b) :
    DevicesOk p (serialEmit { b with io := { b.io with sd := d, sioMask := m } }) := by
  obtain ⟨hports, hbuzzer, hcounters⟩ := hb
  obtain ⟨⟨hl, hh, -⟩, hcounts⟩ := (countersOk_iff b).mp hcounters
  unfold serialEmit
  split
  · exact ⟨portsOk_of_same (b := b) ⟨rfl, rfl, rfl, rfl, rfl⟩ hports, buzzerOk_of_same (b := b) ⟨rfl, rfl, rfl, rfl⟩ rfl hbuzzer,
      (countersOk_iff _).mpr ⟨⟨hl, hh, by simp⟩, hcounts⟩⟩
  · next hm =>
    exact ⟨portsOk_of_same (b := b) ⟨rfl, rfl, rfl, rfl, rfl⟩ hports, buzzerOk_of_same (b := b) ⟨rfl, rfl, rfl, rfl⟩ rfl hbuzzer,
      (countersOk_iff _).mpr ⟨⟨hl, hh, hm⟩, hcounts⟩⟩

/-- SWRST clears the digits or leaves them (20_memory.md R81). -/
theorem devicesOk_ctrlSwWrite {p : Params} {b : Bus} (v : Nib) (hb : DevicesOk p b) : DevicesOk p (ctrlSwWrite v b) := by
  obtain ⟨hports, hbuzzer, hcounters⟩ := hb
  obtain ⟨⟨hl, hh, hm⟩, hcounts⟩ := (countersOk_iff b).mp hcounters
  refine ⟨portsOk_of_same (b := b) ⟨rfl, rfl, rfl, rfl, rfl⟩ hports, buzzerOk_of_same (b := b) ⟨rfl, rfl, rfl, rfl⟩ rfl hbuzzer,
    (countersOk_iff _).mpr ⟨?_, hcounts⟩⟩
  unfold ctrlSwWrite
  cases v.getLsbD 0
  · exact ⟨hl, hh, hm⟩
  · exact ⟨Nat.zero_le 9, Nat.zero_le 9, hm⟩

/-- A write to a register keeps the devices' part. Most registers are read by none of it; the rest are the ports, the serial data,
the stopwatch's control and the buzzer's. -/
theorem devicesOk_ioWrite {p : Params} {b : Bus} (r : IoReg) (v : Nib) (hw : p.wf = true) (hb : DevicesOk p b) :
    DevicesOk p (ioWrite p r v b) := by
  cases r
  case p0 | p1 | p2 | p3 => exact devicesOk_portWrite _ v hb
  case ioc => exact devicesOk_relatch ⟨rfl, rfl, rfl, rfl⟩ ⟨rfl, rfl, rfl⟩ hb
  case sdl | sdh => exact devicesOk_serialWrite _ _ hb
  case ctrlSw => exact devicesOk_ctrlSwWrite v hb
  case bzc1 => exact devicesOk_bzc1Write v hw hb
  case bzc2 => exact devicesOk_bzc2Write v hw hb
  case r4 =>
    obtain ⟨hports, -, hcounters⟩ := hb
    obtain ⟨hdigits, hcounts⟩ := (countersOk_iff b).mp hcounters
    exact devicesOk_buzzerUpdate hw (portsOk_of_same (b := b) ⟨rfl, rfl, rfl, rfl, rfl⟩ hports) hdigits hcounts
  all_goals exact devicesOk_of_same (b := b) ⟨rfl, rfl, rfl, rfl, rfl⟩ ⟨rfl, rfl, rfl, rfl⟩ ⟨rfl, rfl, rfl⟩ rfl hb

theorem devicesOk_busWrite {p : Params} {b : Bus} (a : Addr) (v : Nib) (hw : p.wf = true) (hb : DevicesOk p b) :
    DevicesOk p (busWrite p a v b) := by
  unfold busWrite
  split
  · exact hb
  · exact hb
  · exact devicesOk_ioWrite _ v hw hb
  · exact hb

/-- An acknowledging read clears factor flags only (20_memory.md R73). -/
theorem devicesOk_ioAck {p : Params} {b : Bus} (r : IoReg) (hb : DevicesOk p b) : DevicesOk p (ioAck r b) := by
  cases r
  all_goals exact devicesOk_of_same (b := b) ⟨rfl, rfl, rfl, rfl, rfl⟩ ⟨rfl, rfl, rfl, rfl⟩ ⟨rfl, rfl, rfl⟩ rfl hb

theorem devicesOk_ack {p : Params} {b : Bus} (a : Addr) (hb : DevicesOk p b) : DevicesOk p (ack a b) := by
  unfold ack
  split
  · exact devicesOk_ioAck _ hb
  · exact hb

/-! ## An oscillator tick -/

theorem devicesOk_mainTimerTick {p : Params} {b : Bus} (hb : DevicesOk p b) : DevicesOk p (mainTimerTick p b) := by
  unfold mainTimerTick
  dsimp only
  split
  all_goals exact devicesOk_of_same (b := b) ⟨rfl, rfl, rfl, rfl, rfl⟩ ⟨rfl, rfl, rfl, rfl⟩ ⟨rfl, rfl, rfl⟩ rfl hb

/-- A digit that is not 9 counts up to at most 9 (60_exceptions.md R335). -/
theorem digit_succ_le {d : Nib} (h : ¬ 9 ≤ d.toNat) : (d + 1#4).toNat ≤ 9 := by
  simp only [BitVec.toNat_add, BitVec.toNat_ofNat]
  omega

theorem digitsOk_stopwatchCount {io : Io} (h : DigitsOk io) : DigitsOk (stopwatchCount io) := by
  obtain ⟨hl, hh, hm⟩ := h
  unfold stopwatchCount
  split
  · split
    · exact ⟨Nat.zero_le 9, Nat.zero_le 9, hm⟩
    · next hd => exact ⟨Nat.zero_le 9, digit_succ_le hd, hm⟩
  · next hd => exact ⟨digit_succ_le hd, hh, hm⟩

/-- A stopwatch count changes the digits and the stopwatch flags only. -/
theorem stopwatchCount_same (io : Io) : SamePorts (stopwatchCount io) io ∧ SameBuzzerBits (stopwatchCount io) io := by
  unfold stopwatchCount
  split
  · split
    all_goals exact ⟨⟨rfl, rfl, rfl, rfl, rfl⟩, rfl, rfl, rfl, rfl⟩
  · exact ⟨⟨rfl, rfl, rfl, rfl, rfl⟩, rfl, rfl, rfl, rfl⟩

theorem devicesOk_stopwatchTick {p : Params} {b : Bus} (hb : DevicesOk p b) : DevicesOk p (stopwatchTick p b) := by
  have ⟨hports, hbuzzer, hcounters⟩ := hb
  obtain ⟨hdigits, hcounts⟩ := (countersOk_iff b).mp hcounters
  obtain ⟨hp, hq⟩ := stopwatchCount_same b.io
  unfold stopwatchTick
  dsimp only
  split
  · split
    · exact ⟨portsOk_of_same (b := b) hp hports, buzzerOk_of_same (b := b) hq rfl hbuzzer,
        (countersOk_iff _).mpr ⟨digitsOk_stopwatchCount hdigits, hcounts⟩⟩
    · exact hb
  · exact hb

theorem devicesOk_progTimerTick {p : Params} {b : Bus} (hb : DevicesOk p b) : DevicesOk p (progTimerTick p b) := by
  cases hd : ptDivider p b.io with
  | none => rwa [progTimerTick_none hd]
  | some d =>
    rw [progTimerTick_some hd]
    unfold progTimerCount
    split_ifs
    all_goals exact devicesOk_of_same (b := b) ⟨rfl, rfl, rfl, rfl, rfl⟩ ⟨rfl, rfl, rfl, rfl⟩ ⟨rfl, rfl, rfl⟩ rfl hb

theorem devicesOk_buzzerTick {p : Params} {b : Bus} (hw : p.wf = true) (hb : DevicesOk p b) : DevicesOk p (buzzerTick p b) := by
  obtain ⟨hports, -, hcounters⟩ := hb
  obtain ⟨hdigits, hcounts⟩ := (countersOk_iff b).mp hcounters
  refine devicesOk_buzzerUpdate hw ?_ ?_ (countsOk_envTick hw (countsOk_shotTick hcounts))
  · simpa only [PortsOk, envTick_io, shotTick_io] using hports
  · simpa only [envTick_io, shotTick_io] using hdigits

/-- An oscillator tick keeps the devices' part (60_exceptions.md R322). -/
theorem devicesOk_oscTick {p : Params} {b : Bus} (hw : p.wf = true) (hb : DevicesOk p b) : DevicesOk p (oscTick p b) :=
  devicesOk_buzzerTick hw (devicesOk_progTimerTick (devicesOk_stopwatchTick (devicesOk_mainTimerTick hb)))

end Sys2Proof.Machine
end

section
/-! The invariant of the machine: the clock network's residuals, the core and the interrupt counts, and every step. -/

namespace Sys2Proof.Machine

open Sys2Proof.Safety

/-! ## The residuals of the timers -/

/-- The residuals that an oscillator tick changes lie in their ranges (60_exceptions.md R330, R335, R342). -/
def TimersOk (p : Params) (k : ClockNet) : Prop :=
  (0 ≤ k.tmResidual ∧ k.tmResidual ≤ p.clkTimerDiv) ∧ (0 ≤ k.swResidual ∧ k.swResidual ≤ p.swDiv) ∧ 0 ≤ k.ptResidual

theorem clockOk_iff (p : Params) (b : Bus) :
    ClockOk p b ↔ (0 ≤ b.clk.oscResidual ∧ b.clk.oscResidual ≤ oscDiv p) ∧ TimersOk p b.clk := Iff.rfl

/-- A residual that a tick takes to 0 or below is replenished into its range (60_exceptions.md R330). -/
theorem replenish_mem {r d : Rat} (hd : 1 ≤ d) (hr : 0 ≤ r) (hle : r - 1 ≤ 0) : 0 ≤ r - 1 + d ∧ r - 1 + d ≤ d := by
  constructor <;> linarith

/-- A residual that a tick leaves above 0 stays in its range. -/
theorem countdown_mem {r d : Rat} (hr : r ≤ d) (hlt : ¬ r - 1 ≤ 0) : 0 ≤ r - 1 ∧ r - 1 ≤ d := by
  constructor <;> linarith

theorem timersOk_mainTimerTick {p : Params} {b : Bus} (hw : p.wf = true) (hb : TimersOk p b.clk) :
    TimersOk p (mainTimerTick p b).clk := by
  obtain ⟨-, -, hdiv, -⟩ := wf_ranges hw
  obtain ⟨⟨h0, h1⟩, hsw, hpt⟩ := hb
  unfold mainTimerTick
  dsimp only
  split
  · next hle => exact ⟨replenish_mem hdiv h0 hle, hsw, hpt⟩
  · next hlt => exact ⟨countdown_mem h1 hlt, hsw, hpt⟩

theorem timersOk_stopwatchTick {p : Params} {b : Bus} (hw : p.wf = true) (hb : TimersOk p b.clk) :
    TimersOk p (stopwatchTick p b).clk := by
  obtain ⟨-, -, -, hdiv, -⟩ := wf_ranges hw
  obtain ⟨htm, ⟨h0, h1⟩, hpt⟩ := hb
  unfold stopwatchTick
  dsimp only
  split
  · next hle =>
    split
    · exact ⟨htm, replenish_mem hdiv h0 hle, hpt⟩
    · exact ⟨htm, replenish_mem hdiv h0 hle, hpt⟩
  · next hlt => exact ⟨htm, countdown_mem h1 hlt, hpt⟩

theorem timersOk_progTimerTick {p : Params} {b : Bus} (hw : p.wf = true) (hb : TimersOk p b.clk) :
    TimersOk p (progTimerTick p b).clk := by
  cases hd : ptDivider p b.io with
  | none => rwa [progTimerTick_none hd]
  | some d =>
    obtain ⟨htm, hsw, h0⟩ := hb
    rw [progTimerTick_some hd]
    split
    · next hle => exact ⟨htm, hsw, (replenish_mem (one_le_of_ptDivider hw hd) h0 hle).1⟩
    · next hlt => exact ⟨htm, hsw, (countdown_mem le_rfl hlt).1⟩

/-- An oscillator tick keeps the timers' residuals in their ranges (60_exceptions.md R322). -/
theorem timersOk_oscTick {p : Params} {b : Bus} (hw : p.wf = true) (hb : TimersOk p b.clk) : TimersOk p (oscTick p b).clk := by
  simp only [oscTick, buzzerTick_clk]
  exact timersOk_progTimerTick hw (timersOk_stopwatchTick hw (timersOk_mainTimerTick hw hb))

/-! ## The residual of the oscillator -/

/-- The loop of `ClockAdvance` ends with a residual above 0 and at most `DIV`, when its bound suffices (60_exceptions.md R321). -/
theorem clockLoop_oscResidual {p : Params} (n : Nat) (b : Bus) (hn : 0 < b.clk.oscResidual + n * oscDiv p)
    (hle : b.clk.oscResidual ≤ oscDiv p) :
    0 < (clockLoop p n b).clk.oscResidual ∧ (clockLoop p n b).clk.oscResidual ≤ oscDiv p := by
  induction n generalizing b with
  | zero => exact ⟨by simpa [clockLoop] using hn, hle⟩
  | succ n ih =>
    unfold clockLoop
    split
    · next h0 =>
      apply ih
      · rw [withOscResidual_oscResidual, oscTick_oscResidual]
        push_cast at hn
        linarith
      · rw [withOscResidual_oscResidual, oscTick_oscResidual]
        linarith
    · next h0 => exact ⟨not_le.mp h0, hle⟩

/-- The bound that `ClockAdvance` gives its loop suffices (60_exceptions.md R321). -/
theorem ticksDue_spec {p : Params} (hdiv : 0 < oscDiv p) (r : Rat) : 0 < r + ticksDue p r * oscDiv p := by
  unfold ticksDue
  split
  · have hfloor : -r / oscDiv p < ((-r / oscDiv p).floor : Rat) + 1 := Int.lt_floor_add_one (-r / oscDiv p)
    have hnat : ((-r / oscDiv p).floor : Rat) ≤ ((-r / oscDiv p).floor.toNat : Rat) := by exact_mod_cast Int.self_le_toNat _
    have hlt : -r < (((-r / oscDiv p).floor.toNat : Rat) + 1) * oscDiv p := (div_lt_iff₀ hdiv).mp (by linarith)
    push_cast
    linarith
  · next h => simpa using not_le.mp h

/-- Advancing the clock network leaves an oscillator residual in its range (60_exceptions.md R321). -/
theorem clockAdvance_oscResidual {p : Params} (hw : p.wf = true) (c : Nat) (b : Bus) (hb : b.clk.oscResidual ≤ oscDiv p) :
    0 ≤ (clockAdvance p c b).clk.oscResidual ∧ (clockAdvance p c b).clk.oscResidual ≤ oscDiv p := by
  have hc : (0 : Rat) ≤ c := Nat.cast_nonneg c
  obtain ⟨hpos, hle⟩ := clockLoop_oscResidual (p := p) (ticksDue p (b.clk.oscResidual - c))
    (withOscResidual (b.clk.oscResidual - c) b) (ticksDue_spec (oscDiv_pos hw) _)
    (by rw [withOscResidual_oscResidual]; linarith)
  exact ⟨hpos.le, hle⟩

/-! ## The bus -/

/-- The part of the invariant that speaks of the memories and the devices. -/
def BusOk (p : Params) (b : Bus) : Prop := MemOk b ∧ DevicesOk p b ∧ ClockOk p b

/-- Reads and writes of data addresses keep the bus's part (20_memory.md R86). -/
theorem busOk_reach {p : Params} {b c : Bus} (hw : p.wf = true) (h : BusReach p b c) (hb : BusOk p b) : BusOk p c := by
  refine h.keeps ?_ ?_ hb
  · rintro a b ⟨hmem, hdev, hclk⟩
    exact ⟨memOk_ack a hmem, devicesOk_ack a hdev, by simpa only [ClockOk, ack_clk] using hclk⟩
  · rintro a v b ⟨hmem, hdev, hclk⟩
    exact ⟨memOk_busWrite p a v hmem, devicesOk_busWrite a v hw hdev, by simpa only [ClockOk, busWrite_clk] using hclk⟩

/-- Ticks of the oscillator keep the devices' part and the timers' residuals. -/
theorem oscTicks_ok {p : Params} (hw : p.wf = true) (n : Nat) {b : Bus} (hdev : DevicesOk p b) (htim : TimersOk p b.clk) :
    DevicesOk p (oscTicks p n b) ∧ TimersOk p (oscTicks p n b).clk := by
  induction n generalizing b with
  | zero => exact ⟨hdev, htim⟩
  | succ n ih => exact ih (devicesOk_oscTick hw hdev) (timersOk_oscTick hw htim)

/-- Advancing the clock network keeps the bus's part (60_exceptions.md R321). -/
theorem busOk_clockAdvance {p : Params} {b : Bus} (hw : p.wf = true) (c : Nat) (hb : BusOk p b) :
    BusOk p (clockAdvance p c b) := by
  obtain ⟨hmem, hdev, ⟨-, hosc⟩, htim⟩ := hb
  refine ⟨memOk_clockAdvance p c hmem, ?_, clockAdvance_oscResidual hw c b hosc, ?_⟩
  all_goals
    obtain ⟨n, hn⟩ := clockAdvance_ticks p c b
    obtain ⟨hdev', htim'⟩ := oscTicks_ok hw n hdev htim
    rw [hn]
  · exact devicesOk_of_same (b := oscTicks p n b) ⟨rfl, rfl, rfl, rfl, rfl⟩ ⟨rfl, rfl, rfl, rfl⟩ ⟨rfl, rfl, rfl⟩ rfl hdev'
  · exact htim'

/-! ## The core -/

/-- `NPC[7:0] = PC[7:0]` (10_state.md R25). -/
def StepsAgree (c : Cpu) : Prop := pcStep c.npc = pcStep c.pc

/-- The low byte of an address of a page and a step is the step. -/
theorem pcStep_append (page : BitVec 5) (st : Byte) : pcStep (page ++ st : BitVec 13) = st.toNat := by
  have := st.isLt
  simp only [pcStep, BitVec.toNat_append]
  rw [← Nat.shiftLeft_add_eq_or_of_lt this, Nat.shiftLeft_eq]
  omega

/-- PSET keeps the step of `PC` in `NPC` (41_branch.md R150). -/
theorem stepsAgree_execPset {q : BitVec 5} {s t : State} (h : exec (.pset q) s = .next t) : StepsAgree t.cpu := by
  cases h
  show pcStep (q ++ (succ s.cpu.pc).extractLsb' 0 8 : BitVec 13) = pcStep (succ s.cpu.pc)
  rw [pcStep_append]
  simp [pcStep]

/-- The values of the PSET row decode to PSET (30_encoding.md R133). -/
theorem decode_psetRow : ∀ q : BitVec 5, decode (0x72#7 ++ q : BitVec 12) = .pset q := by decide +kernel

/-- The opcodes 0xE40 to 0xE5F are those of the PSET row (60_exceptions.md R300). -/
theorem decode_of_isPset {op : Opcode} (h : isPset op = true) : decode op = .pset (field5 op) := by
  have hrow : op = (0x72#7 ++ field5 op : BitVec 12) := by
    have hrange := of_decide_eq_true h
    apply BitVec.eq_of_toNat_eq
    rw [BitVec.toNat_append, ← Nat.shiftLeft_add_eq_or_of_lt (field5 op).isLt, Nat.shiftLeft_eq]
    simp only [field5, BitVec.extractLsb'_toNat, BitVec.toNat_ofNat, Nat.shiftRight_zero]
    omega
  calc decode op = decode (0x72#7 ++ field5 op : BitVec 12) := congrArg decode hrow
    _ = .pset (field5 op) := decode_psetRow _

/-- After an instruction and the update of `NPC` the low bytes agree (10_state.md R25). -/
theorem stepsAgree_epilogue {s t : State} (i0 : Bool) (h : exec (decode (fetch s)) s = .next t) :
    StepsAgree (epilogue i0 (isPset (fetch s)) t).cpu := by
  cases hp : isPset (fetch s)
  · rfl
  · rw [decode_of_isPset hp] at h
    have ht : StepsAgree t.cpu := stepsAgree_execPset h
    exact ht

/-! ## The interrupt counts -/

/-- An entry counts once in total and once for its source (60_exceptions.md R314). -/
theorem diagOk_enterInterrupt {src : IntSource} {s : State} (h : DiagOk s.diag) : DiagOk (enterInterrupt src s).diag := by
  unfold DiagOk at h
  show s.diag.interruptCount + 1 = _
  rw [h]
  cases src <;> simp only [enterInterrupt, pushReturn_diag, IntCounts.bump] <;> omega

/-! ## The step -/

/-- What holds before the interrupt check that ends a step: the invariant, but for an enable delay that may be pending. -/
structure ReadyToFinish (s : State) : Prop where
  params : s.params.wf = true
  steps : StepsAgree s.cpu
  bus : BusOk s.params s.bus
  diag : DiagOk s.diag

theorem inv_iff (s : State) : Inv s ↔ ReadyToFinish s ∧ s.cpu.intDelay = false := by
  constructor
  · rintro ⟨hw, ⟨hsteps, hdelay⟩, hmem, hports, hbuzzer, hcounters, hclk, hdiag⟩
    exact ⟨⟨hw, hsteps, ⟨hmem, ⟨hports, hbuzzer, hcounters⟩, hclk⟩, hdiag⟩, hdelay⟩
  · rintro ⟨⟨hw, hsteps, ⟨hmem, ⟨hports, hbuzzer, hcounters⟩, hclk⟩, hdiag⟩, hdelay⟩
    exact ⟨hw, ⟨hsteps, hdelay⟩, hmem, hports, hbuzzer, hcounters, hclk, hdiag⟩

/-- The interrupt check ends an enable delay, and an entry keeps `NPC` with `PC` (60_exceptions.md R305, R306). -/
theorem inv_interruptCheck {s : State} (pset : Bool) (h : ReadyToFinish s) : Inv (interruptCheck pset s) := by
  rw [inv_iff]
  rcases interruptCheck_cases pset s with ⟨-, e⟩ | ⟨hdelay, e, -⟩ | ⟨hdelay, -, -, src, -, e⟩ <;> rw [e]
  · exact ⟨⟨h.params, h.steps, h.bus, h.diag⟩, rfl⟩
  · exact ⟨h, hdelay⟩
  · exact ⟨⟨h.params, rfl, busOk_reach h.params (touches_pushReturn s.cpu.pc s).bus h.bus, diagOk_enterInterrupt h.diag⟩, hdelay⟩

theorem inv_finishStep {s : State} (pset : Bool) (h : ReadyToFinish s) : Inv (finishStep pset s) := by
  obtain ⟨hready, hdelay⟩ := (inv_iff _).mp (inv_interruptCheck pset h)
  exact (inv_iff _).mpr
    ⟨⟨hready.params, hready.steps, busOk_clockAdvance hready.params _ hready.bus, hready.diag⟩, hdelay⟩

/-- After an instruction the step is ready to finish. -/
theorem readyToFinish_exec {s t : State} (h : exec (decode (fetch s)) s = .next t) (hs : ReadyToFinish s) :
    ReadyToFinish (epilogue s.cpu.fI (isPset (fetch s)) t) := by
  obtain ⟨hparams, hdiag, hbus⟩ := exec_touches _ s t h
  refine ⟨?_, stepsAgree_epilogue _ h, ?_, ?_⟩
  · rw [epilogue_params, hparams]
    exact hs.params
  · rw [epilogue_params, epilogue_bus, hparams]
    exact busOk_reach hs.params hbus hs.bus
  · rw [epilogue_diag, hdiag]
    exact hs.diag

/-- Settles O59: the three ways a step goes (60_exceptions.md R300), each ready to finish where the interrupt check comes. -/
theorem stepKeepsInvariant : Obligations.StepKeepsInvariant := by
  unfold Obligations.StepKeepsInvariant
  intro s t hs h
  obtain ⟨hready, hdelay⟩ := (inv_iff s).mp hs
  rcases step_cases s t h with ⟨-, rfl⟩ | ⟨-, -, rfl⟩ | ⟨-, -, u, hu, rfl⟩
  · exact hs
  · exact inv_finishStep false ⟨hready.params, hready.steps, hready.bus, hready.diag⟩
  · exact inv_finishStep _ (readyToFinish_exec hu hready)

end Sys2Proof.Machine
end

section
/-! What one instruction and one step always answer (20_memory.md R61, 60_exceptions.md R315, 70_reset_and_hazards.md R420). -/

namespace Sys2Proof.Machine

open Sys2Proof.Safety

/-- No arm of the dispatch refuses its instruction (60_exceptions.md R315). -/
theorem exec_next (i : Instr) (s : State) : ∃ t, exec i s = .next t := by
  cases i <;> exact ⟨_, rfl⟩

@[simp] theorem condJump_cost (c : Bool) (e : Byte) (s : State) : (condJump c e s).cost = 5 := by
  cases c <;> rfl

/-- The cycles of an instruction are those of the timing table (70_reset_and_hazards.md R420). Only the conditional jumps take
one of two ways, of the same cost. -/
theorem exec_cost (i : Instr) (s t : State) (h : exec i s = .next t) : t.cost = cycleCost s.params i := by
  cases i <;> injection h with h <;> subst h
  case jpC | jpNC | jpZ | jpNZ => exact condJump_cost _ _ s
  all_goals rfl

@[simp] theorem interruptCheck_params (pset : Bool) (s : State) : (interruptCheck pset s).params = s.params := by
  rcases interruptCheck_cases pset s with ⟨-, e⟩ | ⟨-, e, -⟩ | ⟨-, -, -, src, -, e⟩ <;> rw [e]
  exact enterInterrupt_params src s

@[simp] theorem finishStep_params (pset : Bool) (s : State) : (finishStep pset s).params = s.params := by
  simp only [finishStep, advanceClock_params, interruptCheck_params]

/-- A step runs the decoded instruction when neither latch is set (60_exceptions.md R300). -/
theorem step_of_exec {s t : State} (hr : s.cpu.resetLatch = false) (hh : s.cpu.halt = false)
    (h : exec (decode (fetch s)) s = .next t) :
    step s = .next (finishStep (isPset (fetch s)) (epilogue s.cpu.fI (isPset (fetch s)) t)) := by
  simp only [step, cycle, hr, hh, h, Bool.false_eq_true, if_false]

/-- A step always answers a next state (60_exceptions.md R315). -/
theorem step_next (s : State) : ∃ t, step s = .next t := by
  cases hr : s.cpu.resetLatch
  · cases hh : s.cpu.halt
    · obtain ⟨t, h⟩ := exec_next (decode (fetch s)) s
      exact ⟨_, step_of_exec hr hh h⟩
    · exact ⟨haltedStep s, by simp only [step, cycle, hr, hh, Bool.false_eq_true, if_false, if_true]⟩
  · exact ⟨_, by simp only [step, cycle, hr, if_true]; rfl⟩

/-- No step changes a parameter (00_scope.md R10). -/
theorem step_params {s t : State} (h : step s = .next t) : t.params = s.params := by
  rcases step_cases s t h with ⟨-, rfl⟩ | ⟨-, -, rfl⟩ | ⟨-, -, u, hu, rfl⟩
  · rfl
  · exact finishStep_params false _
  · rw [finishStep_params, epilogue_params, (exec_touches _ s u hu).params]

/-- Settles O8: `exec_next`, `exec_cost` and `exec_touches` for the instruction, `step_next` and `step_params` for the step. -/
theorem nothingStops : Obligations.NothingStops := by
  unfold Obligations.NothingStops
  constructor
  · intro i s
    obtain ⟨t, h⟩ := exec_next i s
    have htouch := exec_touches i s t h
    exact ⟨t, h, exec_cost i s t h, htouch.params, htouch.diag⟩
  · intro s
    obtain ⟨t, h⟩ := step_next s
    exact ⟨t, h, step_params h⟩

end Sys2Proof.Machine
end

section
/-! Fetching from ROM (20_memory.md R62), and the word that the host places there (notes/assumptions/12.md). -/

namespace Sys2Proof.Machine

/-- A word of two bytes as a number. -/
theorem bytePair_toNat (hi lo : Byte) : (hi ++ lo : BitVec 16).toNat = 256 * hi.toNat + lo.toNat := by
  rw [BitVec.toNat_append, ← Nat.shiftLeft_add_eq_or_of_lt lo.isLt, Nat.shiftLeft_eq]
  omega

/-- The opcode of a word is its upper 12 bits (20_memory.md R62). -/
theorem opcodeOfWord_toNat (w : RomWord) : (opcodeOfWord w).toNat = w.toNat / 16 := by
  have := w.isLt
  simp only [opcodeOfWord, BitVec.extractLsb'_toNat, Nat.shiftRight_eq_div_pow]
  omega

@[simp] theorem opcodeOfWord_wordOfOpcode (op : Opcode) : opcodeOfWord (wordOfOpcode op) = op := by
  apply BitVec.eq_of_toNat_eq
  rw [opcodeOfWord_toNat, wordOfOpcode, BitVec.toNat_append, ← Nat.shiftLeft_add_eq_or_of_lt (0#4).isLt, Nat.shiftLeft_eq]
  simp

/-- Two halves of a word, joined in their order, give it back. -/
theorem wordHalves (w : RomWord) : w.extractLsb' 8 8 ++ w.extractLsb' 0 8 = w := by
  have := w.isLt
  apply BitVec.eq_of_toNat_eq
  simp only [bytePair_toNat, BitVec.extractLsb'_toNat, Nat.shiftRight_eq_div_pow]
  omega

@[simp] theorem wordOfBytes_bytesOfWord (order : RomOrder) (w : RomWord) :
    wordOfBytes order (bytesOfWord order w).1 (bytesOfWord order w).2 = w := by
  cases order <;> exact wordHalves w

theorem romWord_empty {p : Params} (h : p.rom.length = 0) (w : PcWord) : romWord p w = 0#16 := if_pos h

theorem romWord_nonempty {p : Params} (h : 0 < p.rom.length) (w : PcWord) :
    romWord p w =
      wordOfBytes p.romWordOrder (p.rom.getD (2 * w.toNat % p.rom.length) 0#8)
        (p.rom.getD ((2 * w.toNat % p.rom.length + 1) % p.rom.length) 0#8) :=
  if_neg (by omega)

/-- Settles O5: the three cases of the fetch, each a number of two bytes. -/
theorem romFetch : Obligations.RomFetch := by
  unfold Obligations.RomFetch
  intro s
  dsimp only
  refine ⟨fun hn => ?_, fun hn horder => ?_, fun hn horder => ?_⟩
  · rw [fetch, opcodeOfWord_toNat, romWord_empty hn]
    exact ⟨rfl, rfl⟩
  all_goals
    rw [fetch, opcodeOfWord_toNat, romWord_nonempty hn, horder, wordOfBytes, bytePair_toNat]
    exact ⟨rfl, rfl⟩

/-- The two byte addresses of a word differ in an image of two bytes or more. -/
theorem succ_mod_ne {a n : Nat} (hn : 2 ≤ n) (ha : a < n) : (a + 1) % n ≠ a := by
  rcases Nat.lt_or_ge (a + 1) n with h | h
  · rw [Nat.mod_eq_of_lt h]; omega
  · rw [show a + 1 = n by omega, Nat.mod_self]; omega

/-- Two bytes stored at two places of an image are read back. -/
theorem getD_set_set {l : List Byte} {a c : Nat} (x y : Byte) (ha : a < l.length) (hc : c < l.length) (hne : c ≠ a) :
    ((l.set a x).set c y).getD a 0#8 = x ∧ ((l.set a x).set c y).getD c 0#8 = y := by
  constructor <;> simp [List.getD_eq_getElem?_getD, ha, hc, hne]

/-- A placed word is the one read at its address, whatever the length of the image (20_memory.md R62). -/
theorem romWord_placeWord (p : Params) (w : PcWord) (v : RomWord) :
    romWord { p with rom := placeWord p.romWordOrder p.rom w v } w = v := by
  by_cases hshort : p.rom.length < 2
  · have ha : 2 * w.toNat % 2 = 0 := by omega
    simp [romWord, placeWord, hshort, ha]
  · have hlt : 2 * w.toNat % p.rom.length < p.rom.length := Nat.mod_lt _ (by omega)
    have hlt' : (2 * w.toNat % p.rom.length + 1) % p.rom.length < p.rom.length := Nat.mod_lt _ (by omega)
    obtain ⟨hfirst, hsecond⟩ := getD_set_set (bytesOfWord p.romWordOrder v).1 (bytesOfWord p.romWordOrder v).2 hlt hlt'
      (succ_mod_ne (by omega) hlt)
    simp only [placeWord, if_neg hshort]
    rw [romWord_nonempty (by simp only [List.length_set]; omega)]
    simp only [List.length_set, hfirst, hsecond, wordOfBytes_bytesOfWord]

/-- The state with a placed word fetches it (notes/assumptions/12.md). -/
theorem fetch_withFetchWord (s : State) (op : Opcode) : fetch (s.withFetchWord 16 op.toNat) = op := by
  have hop : BitVec.ofNat 12 (op.toNat % 2 ^ 16) = op := by
    have := op.isLt
    rw [Nat.mod_eq_of_lt (by omega), BitVec.ofNat_toNat, BitVec.setWidth_eq]
  simp only [fetch, State.withFetchWord, placeInstr, hop, romWord_placeWord, opcodeOfWord_wordOfOpcode]

/-- Settles O6: the placed word is fetched, and with both latches clear the step runs it. -/
theorem placedWordRuns : Obligations.PlacedWordRuns := by
  unfold Obligations.PlacedWordRuns
  intro s op
  have hfetch := fetch_withFetchWord s op
  refine ⟨hfetch, rfl, rfl, fun t h => ?_⟩
  have hexec : exec (decode (fetch (s.withFetchWord 16 op.toNat))) (s.withFetchWord 16 op.toNat) = .next t := by rwa [hfetch]
  have hstep := step_of_exec rfl rfl hexec
  rwa [hfetch] at hstep

end Sys2Proof.Machine
end

section
/-! What an instruction changes of the reads of data addresses (20_memory.md R87, R88, R91): one lemma per shared operation, one per
instruction shape, and the frame of every instruction assembled from them. -/

namespace Sys2Proof.Machine

open Sys2Proof.Safety

/-- From `s` to `t` a data address reads the same, unless a store to one of `ws` decides it or it is a factor-flag register of `rs`. -/
structure ReadsKept (rs ws : List Addr) (s t : State) : Prop where
  params : t.params = s.params
  peek : ∀ a, (∀ w, w ∈ ws → storeChanges w a = false) → (a ∈ rs → isFactorAddr a = false) →
    peek t.params a t.bus = peek s.params a s.bus

theorem ReadsKept.trans {rs rs' ws ws' : List Addr} {s t u : State} (h : ReadsKept rs ws s t) (h' : ReadsKept rs' ws' t u) :
    ReadsKept (rs ++ rs') (ws ++ ws') s u :=
  ⟨h'.params.trans h.params, fun a hst hrd =>
    (h'.peek a (fun w hmem => hst w (List.mem_append_right _ hmem)) (fun hmem => hrd (List.mem_append_right _ hmem))).trans
      (h.peek a (fun w hmem => hst w (List.mem_append_left _ hmem)) (fun hmem => hrd (List.mem_append_left _ hmem)))⟩

/-- A change of the core and of the cost alone follows. -/
theorem ReadsKept.core {rs ws : List Addr} {s t u : State} (h : ReadsKept rs ws s t) (hp : u.params = t.params) (hb : u.bus = t.bus) :
    ReadsKept rs ws s u :=
  ⟨hp.trans h.params, fun a hst hrd => by rw [hp, hb]; exact h.peek a hst hrd⟩

/-- A change of the core and of the cost changes no read. -/
theorem readsKept_core {s t : State} (hp : t.params = s.params) (hb : t.bus = s.bus) : ReadsKept [] [] s t :=
  ⟨hp, fun a _ _ => by rw [hp, hb]⟩

theorem readsKept_memRead (a : Addr) (s : State) : ReadsKept [a] [] s (memRead a s).2 := by
  refine ⟨rfl, fun x _ hrd => peek_ack s.params x a s.bus ?_⟩
  rcases eq_or_ne x a with rfl | hne
  · exact .inr (hrd List.mem_cons_self)
  · exact .inl hne

theorem readsKept_memWrite (a : Addr) (v : Nib) (s : State) : ReadsKept [] [a] s (memWrite a v s) :=
  ⟨rfl, fun x hst _ => peek_write s.params x a v s.bus (hst a List.mem_cons_self)⟩

theorem readsKept_opnd (k : Sel) (s : State) : ReadsKept (selAddr k s) [] s (opnd k s).2 := by
  cases k
  case a | b => exact readsKept_core rfl rfl
  case mx | my => exact readsKept_memRead _ s

theorem readsKept_setOpnd (k : Sel) (v : Nib) (s : State) : ReadsKept [] (selAddr k s) s (setOpnd k v s) := by
  cases k
  case a | b => exact readsKept_core rfl rfl
  case mx | my => exact readsKept_memWrite _ v s

/-- The address of an operand is taken from the core alone. -/
theorem selAddr_of_cpu {s t : State} (k : Sel) (h : t.cpu = s.cpu) : selAddr k t = selAddr k s := by
  cases k <;> simp only [selAddr, h]

theorem readsKept_opnds (r q : Sel) (s : State) : ReadsKept (selAddr r s ++ selAddr q s) [] s (opnds r q s).2.2 := by
  have hq := readsKept_opnd q (opnd r s).2
  rw [selAddr_of_cpu q (opnd_cpu r s)] at hq
  exact (readsKept_opnd r s).trans hq

/-- A result stored to `r` after reads that leave the core alone. -/
theorem ReadsKept.setOpnd {rs : List Addr} {s t : State} (h : ReadsKept rs [] s t) (hcpu : t.cpu = s.cpu) (r : Sel) (v : Nib) :
    ReadsKept rs (selAddr r s) s (Machine.setOpnd r v t) := by
  have hset := readsKept_setOpnd r v t
  rw [selAddr_of_cpu r hcpu] at hset
  simpa only [List.append_nil, List.nil_append] using h.trans hset

/-! ## The shapes of instructions -/

theorem readsKept_arithImm (f : Nib → Nib → Nib × Bool) (r : Sel) (i : Nib) (s : State) :
    ReadsKept (selAddr r s) (selAddr r s) s (arithImm f r i s) :=
  ((readsKept_opnd r s).setOpnd (opnd_cpu r s) r _).core rfl rfl

theorem readsKept_arithOpnd (f : Nib → Nib → Nib × Bool) (r q : Sel) (s : State) :
    ReadsKept (selAddr r s ++ selAddr q s) (selAddr r s) s (arithOpnd f r q s) :=
  ((readsKept_opnds r q s).setOpnd (opnds_cpu r q s) r _).core rfl rfl

theorem readsKept_logicImm (f : Nib → Nib → Nib) (r : Sel) (i : Nib) (s : State) :
    ReadsKept (selAddr r s) (selAddr r s) s (logicImm f r i s) :=
  ((readsKept_opnd r s).setOpnd (opnd_cpu r s) r _).core rfl rfl

theorem readsKept_logicOpnd (f : Nib → Nib → Nib) (r q : Sel) (s : State) :
    ReadsKept (selAddr r s ++ selAddr q s) (selAddr r s) s (logicOpnd f r q s) :=
  ((readsKept_opnds r q s).setOpnd (opnds_cpu r q s) r _).core rfl rfl

theorem readsKept_rotate (f : Nib → Bool → Nib × Bool) (r : Sel) (n : Nat) (s : State) :
    ReadsKept (selAddr r s) (selAddr r s) s (rotate f r n s) :=
  ((readsKept_opnd r s).setOpnd (opnd_cpu r s) r _).core rfl rfl

theorem readsKept_countMem (f : Nib → Nib × Bool) (n : Nib) (s : State) :
    ReadsKept [nibAddr n] [nibAddr n] s (countMem f n s) :=
  ((readsKept_memRead (nibAddr n) s).trans (readsKept_memWrite (nibAddr n) _ _)).core rfl rfl

/-- The multi-digit forms: the increment of the index changes no read. -/
theorem readsKept_digitOp (f : Nib → Nib → Nib × Bool) (m r : Sel) {inc : State → State} (hp : ∀ s, (inc s).params = s.params)
    (hb : ∀ s, (inc s).bus = s.bus) (s : State) :
    ReadsKept (selAddr m s ++ selAddr r s) (selAddr m s) s (digitOp f m r inc s) :=
  ((readsKept_opnds m r s).setOpnd (opnds_cpu m r s) m _).core (hp _) (hb _)

theorem readsKept_moveOpnd (r q : Sel) (s : State) : ReadsKept (selAddr q s) (selAddr r s) s (moveOpnd r q s) :=
  (readsKept_opnd q s).setOpnd (opnd_cpu q s) r _

theorem readsKept_push (v : Nib) (s : State) : ReadsKept [] (pushAddr 1 s) s (push v s) :=
  (readsKept_memWrite (stackAddr (s.cpu.sp - 1#8)) v s).core rfl rfl

theorem readsKept_pushOpnd (r : Sel) (s : State) :
    ReadsKept (selAddr r s) (pushAddr 1 s) s (push (opnd r s).1 (opnd r s).2) := by
  have haddr : pushAddr 1 (opnd r s).2 = pushAddr 1 s := by simp only [pushAddr, opnd_cpu]
  have hpush := readsKept_push (opnd r s).1 (opnd r s).2
  rw [haddr] at hpush
  simpa only [List.append_nil, List.nil_append] using (readsKept_opnd r s).trans hpush

theorem popAddr_one (s : State) : popAddr 1 s = [stackAddr s.cpu.sp] := by simp [popAddr]

theorem popAddr_three (s : State) :
    popAddr 3 s = [stackAddr s.cpu.sp, stackAddr (s.cpu.sp + 1#8), stackAddr (s.cpu.sp + 2#8)] := by
  simp [popAddr, List.range_succ]

theorem readsKept_pop (s : State) : ReadsKept (popAddr 1 s) [] s (pop s).2 := by
  rw [popAddr_one]
  exact (readsKept_memRead (stackAddr s.cpu.sp) s).core rfl rfl

theorem readsKept_pushReturn (r : PcWord) (s : State) : ReadsKept [] (pushAddr 3 s) s (pushReturn r s) :=
  (((readsKept_memWrite _ _ s).trans (readsKept_memWrite _ _ _)).trans (readsKept_memWrite _ _ _)).core rfl rfl

theorem readsKept_popReturn (s : State) : ReadsKept (popAddr 3 s) [] s (popReturn s) := by
  rw [popAddr_three]
  exact (((readsKept_memRead (stackAddr s.cpu.sp) s).trans (readsKept_memRead (stackAddr (s.cpu.sp + 1#8)) _)).trans
    (readsKept_memRead (stackAddr (s.cpu.sp + 2#8)) _)).core rfl rfl

theorem readsKept_callTo (page : Nib) (e : Byte) (s : State) : ReadsKept [] (pushAddr 3 s) s (callTo page e s) :=
  (readsKept_pushReturn _ s).core rfl rfl

theorem readsKept_condJump (c : Bool) (e : Byte) (s : State) : ReadsKept [] [] s (condJump c e s) := by
  cases c <;> exact readsKept_core rfl rfl

theorem readsKept_storeByteX (e : Byte) (s : State) : ReadsKept [] (byteAddr s) s (storeByteX e s) :=
  (((readsKept_memWrite s.cpu.ix _ s).core (u := incX (memWrite s.cpu.ix (loNib e) s)) rfl rfl).trans
    (readsKept_memWrite (incX s).cpu.ix (hiNib e) _)).core rfl rfl

/-! ## Every instruction -/

/-- Every instruction changes only what its own reads and stores can change (20_memory.md R87, R91). -/
theorem exec_readsKept (i : Instr) (s t : State) (h : exec i s = .next t) : ReadsKept (reads i s) (stores i s) s t := by
  cases i <;> injection h with h <;> subst h
  case jpC | jpNC | jpZ | jpNZ => exact readsKept_condJump _ _ s
  case call | calz => exact readsKept_callTo _ _ s
  case ret => exact (readsKept_popReturn s).core rfl rfl
  case rets => exact (readsKept_popReturn s).core rfl rfl
  case retd e =>
    exact ((readsKept_popReturn s).trans (readsKept_storeByteX e (popReturn s))).core rfl rfl
  case lbpx => exact (readsKept_storeByteX _ s).core rfl rfl
  case addRI | adcRI | sbcRI => exact readsKept_arithImm _ _ _ s
  case addRQ | adcRQ | subRQ | sbcRQ => exact readsKept_arithOpnd _ _ _ s
  case andRI | orRI | xorRI => exact readsKept_logicImm _ _ _ s
  case notA => exact readsKept_logicImm _ .a _ s
  case notB => exact readsKept_logicImm _ .b _ s
  case notMX => exact readsKept_logicImm _ .mx _ s
  case notMY => exact readsKept_logicImm _ .my _ s
  case andRQ | orRQ | xorRQ => exact readsKept_logicOpnd _ _ _ s
  case cpRI | fanRI => exact (readsKept_opnd _ s).core rfl rfl
  case cpRQ | fanRQ => exact (readsKept_opnds _ _ s).core rfl rfl
  case rlc | rrc => exact readsKept_rotate _ _ _ s
  case incM | decM => exact readsKept_countMem _ _ s
  case acpx | scpx => exact readsKept_digitOp _ .mx _ incX_params incX_bus s
  case acpy | scpy => exact readsKept_digitOp _ .my _ incY_params incY_bus s
  case ldXP | ldXH | ldXL | ldYP | ldYH | ldYL => exact (readsKept_opnd _ s).core rfl rfl
  case ldSPH | ldSPL => exact (readsKept_opnd _ s).core rfl rfl
  case ldRI | ldRXP | ldRXH | ldRXL | ldRYP | ldRYH | ldRYL | ldRSPH | ldRSPL => exact (readsKept_setOpnd _ _ s).core rfl rfl
  case ldpxI => exact (readsKept_setOpnd .mx _ s).core rfl rfl
  case ldpyI => exact (readsKept_setOpnd .my _ s).core rfl rfl
  case ldRQ | ldpxRQ | ldpyRQ => exact (readsKept_moveOpnd _ _ s).core rfl rfl
  case ldAM | ldBM => exact (readsKept_memRead _ s).core rfl rfl
  case ldMA | ldMB => exact (readsKept_memWrite _ _ s).core rfl rfl
  case push r => exact (readsKept_pushOpnd r s).core rfl rfl
  case pushXP | pushXH | pushXL | pushYP | pushYH | pushYL | pushF => exact (readsKept_push _ s).core rfl rfl
  case pop r => exact ((readsKept_pop s).trans (readsKept_setOpnd r _ (pop s).2)).core rfl rfl
  case popXP | popXH | popXL | popYP | popYH | popYL | popF => exact (readsKept_pop s).core rfl rfl
  all_goals exact readsKept_core rfl rfl

/-- Settles O35: the frame that `exec_readsKept` gives each instruction. -/
theorem memoryFrame : Obligations.MemoryFrame := by
  unfold Obligations.MemoryFrame
  intro i s t a h hst hrd
  exact (exec_readsKept i s t h).peek a hst hrd

end Sys2Proof.Machine
end

section
/-! The data memory by address: where RAM, VRAM, each register and nothing lie, and what a read and a write there do
(20_memory.md R63 to R73). -/

namespace Sys2Proof.Machine

open Sys2Proof.Safety

/-- The data address of a register. -/
def regAddr (r : IoReg) : Addr := BitVec.ofNat 12 (addrOf r)

/-- Every register is reached at its address (20_memory.md R72). -/
@[simp] theorem regionOf_regAddr (r : IoReg) : regionOf (regAddr r) = .io r := by cases r <;> rfl

@[simp] theorem peek_regAddr (p : Params) (r : IoReg) (b : Bus) : peek p (regAddr r) b = ioValue p r b := by
  simp only [peek, regionOf_regAddr]

@[simp] theorem ack_regAddr (r : IoReg) (b : Bus) : ack (regAddr r) b = ioAck r b := by
  simp only [ack, regionOf_regAddr]

@[simp] theorem busWrite_regAddr (p : Params) (r : IoReg) (v : Nib) (b : Bus) :
    busWrite p (regAddr r) v b = ioWrite p r v b := by
  simp only [busWrite, regionOf_regAddr]

/-! ## RAM and VRAM (20_memory.md R63, R64, R68 to R70) -/

/-- The index of a VRAM address (20_memory.md R64). -/
def vramIndex (n : Nat) : Nat := if n < 0xE80 then n - 0xE00 else n - 0xE80 + 80

/-- The addresses of the two VRAM banks (20_memory.md R64). -/
def InVram (n : Nat) : Prop := (0xE00 ≤ n ∧ n ≤ 0xE4F) ∨ (0xE80 ≤ n ∧ n ≤ 0xECF)

theorem regionOf_vram {a : Addr} (h : InVram a.toNat) : regionOf a = .vram (vramIndex a.toNat) := by
  rcases h with ⟨hlo, hhi⟩ | ⟨hlo, hhi⟩
  · rw [regionOf_vram1 hlo hhi, vramIndex, if_pos (by omega)]
  · rw [regionOf_vram2 hlo hhi, vramIndex, if_neg (by omega)]

/-- A RAM or VRAM cell holds what was last written to it (20_memory.md R68). -/
theorem peek_busWrite_same {p : Params} {a : Addr} {v : Nib} {b : Bus} (hb : MemOk b)
    (ha : a.toNat ≤ 0x2FF ∨ InVram a.toNat) : peek p a (busWrite p a v b) = v := by
  rcases ha with h | h
  · simp only [peek, busWrite, regionOf_ram h, Memory.read_write_same v hb.1]
  · simp only [peek, busWrite, regionOf_vram h, vramWrite, Memory.read_write_same v hb.2]

/-- A control register whose write decides other reads lies in the I/O window, so a store to RAM or VRAM changes the reads of its
own address only (20_memory.md R78, R81). -/
theorem storeChanges_of_memory {a w : Addr} (hw : w.toNat < 0xF00) (hne : a ≠ w) : storeChanges w a = false := by
  have h (n : Nat) (hn : 0xF00 ≤ n) (hlt : n < 2 ^ 12) : w ≠ BitVec.ofNat 12 n := by
    rintro rfl
    rw [BitVec.toNat_ofNat, Nat.mod_eq_of_lt hlt] at hw
    omega
  simp [storeChanges, hne, h 0xF76, h 0xF77, h 0xF78, h 0xF7D]

/-- Settles O38: the region of the address decides the cell, and a store there changes the read of its own address only. -/
theorem dataMemory : Obligations.DataMemory := by
  unfold Obligations.DataMemory
  intro p a v b hb
  refine ⟨fun h => ?_, fun h => ?_, fun h => ⟨peek_busWrite_same hb h, fun a' hne => ?_⟩⟩
  · simp only [peek, ack, busWrite, regionOf_ram h, and_self]
  · simp only [peek, ack, busWrite, regionOf_vram h, vramWrite]
    exact ⟨rfl, trivial, trivial⟩
  · refine peek_write p a' a v b (storeChanges_of_memory ?_ hne)
    rcases h with h | h | h <;> omega

/-! ## No region (20_memory.md R65, R67) -/

/-- The gaps of the I/O window (20_memory.md R72). -/
def InGap (n : Nat) : Prop :=
  (0xF06 ≤ n ∧ n ≤ 0xF0F) ∨ (0xF16 ≤ n ∧ n ≤ 0xF1F) ∨ (0xF28 ≤ n ∧ n ≤ 0xF2F) ∨ (0xF32 ≤ n ∧ n ≤ 0xF3F) ∨
    (0xF43 ≤ n ∧ n ≤ 0xF4F) ∨ (0xF55 ≤ n ∧ n ≤ 0xF5F) ∨ (0xF64 ≤ n ∧ n ≤ 0xF6F) ∨ n = 0xF7C ∨ n = 0xF7F

/-- No register lies in a gap of the I/O window. -/
theorem addrOf_not_inGap (r : IoReg) : 0xF00 ≤ addrOf r ∧ addrOf r < 0xF80 ∧ ¬ InGap (addrOf r) := by
  unfold InGap
  cases r <;> decide

theorem regAddr_toNat (r : IoReg) : (regAddr r).toNat = addrOf r := by
  have := addrOf_not_inGap r
  rw [regAddr, BitVec.toNat_ofNat, Nat.mod_eq_of_lt (by omega)]

/-- An address outside every region reaches nothing: it is none of RAM, of VRAM, and of the 48 register addresses. -/
theorem regionOf_unmapped {a : Addr} (hram : 0x2FF < a.toNat) (hvram : ¬ InVram a.toNat)
    (hio : a.toNat < 0xF00 ∨ 0xF80 ≤ a.toNat ∨ InGap a.toNat) : regionOf a = .unmapped := by
  unfold InVram at hvram
  rcases regionOf_cases a with ⟨h, -⟩ | ⟨h, h', -⟩ | ⟨h, h', -⟩ | ⟨-, -, r, -, h⟩ | h
  · omega
  · omega
  · omega
  · have ha : a.toNat = addrOf r := by rw [regionOf_io h]; exact regAddr_toNat r
    obtain ⟨hlo, hhi, hgap⟩ := addrOf_not_inGap r
    rw [ha] at hio
    rcases hio with hio | hio | hio
    · omega
    · omega
    · exact absurd hio hgap
  · exact h

/-- Settles O39: the address reaches no region. -/
theorem unmappedAddresses : Obligations.UnmappedAddresses := by
  unfold Obligations.UnmappedAddresses
  intro p a v b n h
  have hn : 0x2FF < n ∧ ¬ InVram n ∧ (n < 0xF00 ∨ 0xF80 ≤ n ∨ InGap n) := by
    unfold InVram InGap
    omega
  have ha : regionOf a = .unmapped := regionOf_unmapped hn.1 hn.2.1 hn.2.2
  simp only [peek, ack, busWrite, ha, and_self]

/-! ## Factor flags (20_memory.md R71, R73) -/

/-- The six factor-flag registers (20_memory.md R73). -/
def factorRegs : List IoReg := [.ift, .ifsw, .ifpt, .ifsio, .ifk0, .ifk1]

theorem factorRegs_cases {r : IoReg} (h : r ∈ factorRegs) :
    r = .ift ∨ r = .ifsw ∨ r = .ifpt ∨ r = .ifsio ∨ r = .ifk0 ∨ r = .ifk1 := by
  simpa [factorRegs] using h

/-- The factor-flag addresses are those of the six registers. -/
theorem isFactorAddr_regAddr (r : IoReg) : isFactorAddr (regAddr r) = decide (r ∈ factorRegs) := by
  cases r <;> decide

/-- A factor-flag address reaches one of the six registers. -/
theorem factorReg_of_isFactorAddr {a : Addr} (h : isFactorAddr a = true) : ∃ r ∈ factorRegs, a = regAddr r := by
  revert a
  decide +kernel

theorem ioAck_of_not_factor {r : IoReg} (h : r ∉ factorRegs) (b : Bus) : ioAck r b = b := by
  cases r
  case ift | ifsw | ifpt | ifsio | ifk0 | ifk1 => exact absurd (by decide) h
  all_goals rfl

/-- A read of any other address changes nothing (20_memory.md R87). -/
theorem ack_of_not_factor {a : Addr} (h : isFactorAddr a = false) (b : Bus) : ack a b = b := by
  unfold ack
  split
  · next r hr =>
    have ha : a = regAddr r := regionOf_io hr
    rw [ha, isFactorAddr_regAddr] at h
    exact ioAck_of_not_factor (of_decide_eq_false h) b
  · rfl

/-- Four bits as a number. -/
theorem nibOfBits_toNat (b3 b2 b1 b0 : Bool) :
    (nibOfBits b3 b2 b1 b0).toNat = 8 * b3.toNat + 4 * b2.toNat + 2 * b1.toNat + b0.toNat := by
  revert b3 b2 b1 b0; decide

@[simp] theorem nibOfBits_zero : nibOfBits false false false false = 0#4 := by decide

/-- After its read a factor-flag register reads 0 (20_memory.md R73). -/
theorem ioValue_ioAck_factor {r : IoReg} (h : r ∈ factorRegs) (p : Params) (b : Bus) : ioValue p r (ioAck r b) = 0#4 := by
  rcases factorRegs_cases h with rfl | rfl | rfl | rfl | rfl | rfl <;>
    simp [ioValue, ioAck]

/-- A write to a factor-flag register is ignored (20_memory.md R73). -/
theorem ioWrite_factor {r : IoReg} (h : r ∈ factorRegs) (p : Params) (v : Nib) (b : Bus) : ioWrite p r v b = b := by
  rcases factorRegs_cases h with rfl | rfl | rfl | rfl | rfl | rfl <;> rfl

/-- A flag register of one bit reads as the bit. -/
theorem bit_toNat (x : Bool) : (nibOfBits false false false x).toNat = x.toNat := by
  cases x <;> rfl

theorem setWidth_toNat_of_le {w : Nat} (x : BitVec w) (hw : w ≤ 4) : (x.setWidth 4).toNat = x.toNat := by
  rw [BitVec.toNat_setWidth, Nat.mod_eq_of_lt (Nat.lt_of_lt_of_le x.isLt (Nat.pow_le_pow_right (by omega) hw))]

/-- Settles O40: each of the six registers by its own read, and the address decides the rest. -/
theorem readToAcknowledge : Obligations.ReadToAcknowledge := by
  unfold Obligations.ReadToAcknowledge
  intro p a v b
  refine ⟨⟨peek_regAddr p .ift b, ack_regAddr .ift b⟩, ⟨?_, ack_regAddr .ifsw b⟩, ⟨?_, ack_regAddr .ifpt b⟩,
    ⟨?_, ack_regAddr .ifsio b⟩, ⟨?_, ack_regAddr .ifk0 b⟩, ⟨?_, ack_regAddr .ifk1 b⟩, fun h => ?_, fun h => ack_of_not_factor h b⟩
  · exact (congrArg _ (peek_regAddr p .ifsw b)).trans (setWidth_toNat_of_le _ (by omega))
  · exact (congrArg _ (peek_regAddr p .ifpt b)).trans (bit_toNat _)
  · exact (congrArg _ (peek_regAddr p .ifsio b)).trans (bit_toNat _)
  · exact (congrArg _ (peek_regAddr p .ifk0 b)).trans (bit_toNat _)
  · exact (congrArg _ (peek_regAddr p .ifk1 b)).trans (bit_toNat _)
  · obtain ⟨r, hr, rfl⟩ := factorReg_of_isFactorAddr h
    rw [ack_regAddr, peek_regAddr, busWrite_regAddr]
    exact ⟨ioValue_ioAck_factor hr p b, ioWrite_factor hr p v b⟩

end Sys2Proof.Machine
end

section
/-! The I/O registers one by one: what each reads as, and what it reads as after a write (20_memory.md R71, R72, R74, R76, R83). -/

namespace Sys2Proof.Machine

open Sys2Proof.Safety

theorem loNib_toNat (v : Byte) : (loNib v).toNat = v.toNat % 16 := by rw [loNib_eq, BitVec.toNat_ofNat]

theorem hiNib_toNat (v : Byte) : (hiNib v).toNat = v.toNat / 16 := by
  have := v.isLt
  rw [hiNib_eq, BitVec.toNat_ofNat, Nat.mod_eq_of_lt (by omega)]

/-- A byte of two digits given as numbers. -/
theorem byteOf_eq_ofNat {hi lo : Nib} {h l : Nat} (hhi : hi.toNat = h) (hlo : lo.toNat = l) :
    byteOf hi lo = BitVec.ofNat 8 (16 * h + l) := by
  rw [← hhi, ← hlo, ← byteOf_toNat, BitVec.ofNat_toNat, BitVec.setWidth_eq]

/-- The low bits of a nibble. -/
theorem lowBits_eq_ofNat (v : Nib) (n : Nat) : v.extractLsb' 0 n = BitVec.ofNat n v.toNat := by
  apply BitVec.eq_of_toNat_eq
  simp

/-! ## Reading back a write -/

/-- The registers that read back bits of what was written, without regard to the state before (20_memory.md R72). -/
def readBackRegs : List IoReg :=
  [.eit, .eisw, .eipt, .eisio, .eik0, .eik1, .rdl, .rdh, .sdl, .sdh, .dfk0, .r0, .r1, .r2, .r3, .r4, .ctrlOsc, .lcdCtrl, .lcdContrast,
    .svd, .bzc1, .ctrlTm, .ctrlSw, .ctrlPt, .ptc, .sioc, .hzc, .ioc, .pup]

/-- The bits that such a register reads back (20_memory.md R72). -/
def storedBits : IoReg → Nib
  | .eisw => 0x3#4
  | .eipt | .eisio | .ctrlPt => 0x1#4
  | .bzc1 | .ptc => 0x7#4
  | .ctrlTm => 0x0#4
  | .ctrlSw => 0x2#4
  | _ => 0xF#4

theorem nib_and_15 (v : Nib) : v &&& 0xF#4 = v := by revert v; decide

theorem nib_and_7 (v : Nib) : (v.extractLsb' 0 3).setWidth 4 = v &&& 0x7#4 := by revert v; decide

theorem nib_and_3 (v : Nib) : (v.extractLsb' 0 2).setWidth 4 = v &&& 0x3#4 := by revert v; decide

theorem nib_and_2 (v : Nib) : nibOfBits false false (v.getLsbD 1) false = v &&& 0x2#4 := by revert v; decide

theorem nib_and_1 (v : Nib) : nibOfBits false false false (v.getLsbD 0) = v &&& 0x1#4 := by revert v; decide

theorem nib_and_0 (v : Nib) : 0#4 = v &&& 0x0#4 := by revert v; decide

/-- The serial output leaves the data register (20_memory.md R75). -/
@[simp] theorem serialEmit_sd (b : Bus) : (serialEmit b).io.sd = b.io.sd := by
  simp only [serialEmit]
  split <;> rfl

@[simp] theorem bzc1Write_io (p : Params) (v : Nib) (b : Bus) :
    (bzc1Write p v b).io = { b.io with bzfq := v.extractLsb' 0 3 } := by
  simp only [bzc1Write, buzzerUpdate_io]
  split <;> rfl

@[simp] theorem bzc2Write_io (p : Params) (v : Nib) (b : Bus) :
    (bzc2Write p v b).io = { b.io with shtpw := v.getLsbD 2, enrtm := v.getLsbD 1, enon := v.getLsbD 0 } := by
  simp only [bzc2Write, buzzerUpdate_io]
  split
  · rw [shotStart_io]
  · rfl

/-- BZSHOT makes the one-shot active and nothing else does (20_memory.md R80, 60_exceptions.md R354). -/
@[simp] theorem bzc2Write_shotActive (p : Params) (v : Nib) (b : Bus) :
    (bzc2Write p v b).bz.shotActive = (b.bz.shotActive || v.getLsbD 3) := by
  simp only [bzc2Write, buzzerUpdate_shotActive]
  cases hs : b.bz.shotActive <;> cases hv : v.getLsbD 3 <;> simp [shotStart, hs]

/-- What a register reads as after a write (20_memory.md R72, R74, R76, R83). -/
theorem ioValue_ioWrite_self {r : IoReg} (h : r ∈ readBackRegs) (p : Params) (v : Nib) (b : Bus) :
    ioValue p r (ioWrite p r v b) = v &&& storedBits r := by
  cases r
  case ift | ifsw | ifpt | ifsio | ifk0 | ifk1 => exact absurd h (by decide)
  case tml | tmh | swl | swh | ptl | pth | k0 | k1 | p0 | p1 | p2 | p3 | bzc2 => exact absurd h (by decide)
  case eisw | ptc | bzc1 => simp only [ioValue, ioWrite, storedBits, bzc1Write_io, nib_and_7, nib_and_3]
  case eipt | eisio | ctrlPt => exact nib_and_1 v
  case ctrlSw => exact nib_and_2 v
  case ctrlTm => exact nib_and_0 v
  case rdl | rdh | sdl | sdh | r4 =>
    simp only [ioValue, ioWrite, storedBits, nib_and_15, serialEmit_sd, loNib_byteOf, hiNib_byteOf, buzzerUpdate_io]
  all_goals exact (nib_and_15 v).symm

/-- A list of addresses whose registers all read back the bits `m`. -/
theorem peek_busWrite_of_mem {l : List IoReg} {m : Nib} (hl : ∀ r ∈ l, r ∈ readBackRegs ∧ storedBits r = m) {a : Addr}
    (ha : a ∈ l.map regAddr) (p : Params) (v : Nib) (b : Bus) : peek p a (busWrite p a v b) = v &&& m := by
  obtain ⟨r, hr, rfl⟩ := List.mem_map.mp ha
  obtain ⟨hback, hbits⟩ := hl r hr
  rw [busWrite_regAddr, peek_regAddr, ioValue_ioWrite_self hback, hbits]

/-- BZC2 reads back its stored bits, with the one-shot's activity in bit 3 (20_memory.md R80). -/
theorem bzc2_readBack (v : Nib) (active : Bool) :
    nibOfBits (active || v.getLsbD 3) (v.getLsbD 2) (v.getLsbD 1) (v.getLsbD 0) =
      (v &&& 0x7#4) ||| (if active || v.getLsbD 3 then 0x8#4 else 0x0#4) := by
  revert v active; decide

theorem ioValue_bzc2_ioWrite (p : Params) (v : Nib) (b : Bus) :
    ioValue p .bzc2 (ioWrite p .bzc2 v b) =
      (v &&& 0x7#4) ||| (if b.bz.shotActive || v.getLsbD 3 then 0x8#4 else 0x0#4) := by
  simp only [ioValue, ioWrite, bzc2Write_io, bzc2Write_shotActive, bzc2_readBack]

/-- The registers that software only reads, besides the factor flags (20_memory.md R71). -/
def readOnlyRegs : List IoReg := [.tml, .tmh, .swl, .swh, .ptl, .pth, .k0, .k1]

/-- A write to a read-only register is ignored (20_memory.md R71). -/
theorem busWrite_readOnly {a : Addr} (ha : a ∈ readOnlyRegs.map regAddr) (p : Params) (v : Nib) (b : Bus) :
    busWrite p a v b = b := by
  obtain ⟨r, hr, rfl⟩ := List.mem_map.mp ha
  rw [busWrite_regAddr]
  cases r
  case tml | tmh | swl | swh | ptl | pth | k0 | k1 => rfl
  all_goals exact absurd hr (by decide)

/-- Settles O41: the clauses in their order, each register by its own read and write. -/
theorem registerReadBack : Obligations.RegisterReadBack := by
  unfold Obligations.RegisterReadBack
  intro p a v b back io get set
  have num (r : IoReg) : (peek p (regAddr r) b).toNat = (ioValue p r b).toNat := congrArg _ (peek_regAddr p r b)
  have wr (r : IoReg) := busWrite_regAddr p r v b
  refine ⟨fun h => ?full, fun h => ?low3, fun h => ?low2, fun h => ?bit1, fun h => ?none, fun h => ?bit0, ?bzc2, fun h => ?readOnly,
    ?masks, ?timers, ?serial, ?outputs, ?controls, fun h => ack_of_not_factor h b, ?setMasks, ?setReload, ?setOutputs, ?setStored⟩
  case full =>
    exact peek_busWrite_of_mem (l := [.eit, .eik0, .eik1, .rdl, .rdh, .sdl, .sdh, .dfk0, .r0, .r1, .r2, .r3, .r4, .ctrlOsc, .lcdCtrl,
      .lcdContrast, .svd, .sioc, .hzc, .ioc, .pup]) (by decide) h p v b
  case low3 => exact peek_busWrite_of_mem (l := [.bzc1, .ptc]) (by decide) h p v b
  case low2 => exact peek_busWrite_of_mem (l := [.eisw]) (by decide) (List.mem_singleton.mpr h) p v b
  case bit1 => exact peek_busWrite_of_mem (l := [.ctrlSw]) (by decide) (List.mem_singleton.mpr h) p v b
  case none => exact peek_busWrite_of_mem (l := [.ctrlTm]) (by decide) (List.mem_singleton.mpr h) p v b
  case bit0 => exact peek_busWrite_of_mem (l := [.eipt, .eisio, .ctrlPt]) (by decide) h p v b
  case bzc2 =>
    rintro rfl
    exact (congrArg _ (wr .bzc2)).trans ((peek_regAddr p .bzc2 _).trans (ioValue_bzc2_ioWrite p v b))
  case readOnly => exact busWrite_readOnly h p v b
  case masks =>
    exact ⟨num .eit, (num .eisw).trans (setWidth_toNat_of_le _ (by omega)), (num .eipt).trans (bit_toNat _),
      (num .eisio).trans (bit_toNat _), num .eik0, num .eik1⟩
  case timers =>
    exact ⟨(num .tml).trans (loNib_toNat _), (num .tmh).trans (hiNib_toNat _), num .swl, num .swh,
      (num .ptl).trans (loNib_toNat _), (num .pth).trans (hiNib_toNat _), (num .rdl).trans (loNib_toNat _),
      (num .rdh).trans (hiNib_toNat _)⟩
  case serial => exact ⟨(num .sdl).trans (loNib_toNat _), (num .sdh).trans (hiNib_toNat _), num .k0, num .dfk0, num .k1⟩
  case outputs => exact ⟨num .r0, num .r1, num .r2, num .r3, num .r4⟩
  case controls =>
    refine ⟨num .ctrlOsc, num .lcdCtrl, num .lcdContrast, num .svd, (num .bzc1).trans (setWidth_toNat_of_le _ (by omega)),
      (num .bzc2).trans (nibOfBits_toNat _ _ _ _), num .ctrlTm, (num .ctrlSw).trans ?_, (num .ctrlPt).trans (bit_toNat _),
      (num .ptc).trans (setWidth_toNat_of_le _ (by omega)), num .sioc, num .hzc, num .ioc, num .pup⟩
    simp only [ioValue, nibOfBits_toNat, Bool.toNat_false, io]
    omega
  case setMasks =>
    refine ⟨wr .eit, (wr .eisw).trans ?_, wr .eipt, wr .eisio, wr .eik0, wr .eik1, wr .dfk0⟩
    simp only [ioWrite, lowBits_eq_ofNat, io]
  case setReload =>
    refine ⟨(wr .rdl).trans ?_, (wr .rdh).trans ?_, (wr .ptc).trans ?_⟩
    · simp only [ioWrite, byteOf_eq_ofNat (hiNib_toNat _) rfl, io]
    · simp only [ioWrite, byteOf_eq_ofNat rfl (loNib_toNat _), io]
    · simp only [ioWrite, lowBits_eq_ofNat, io]
  case setOutputs => exact ⟨wr .r0, wr .r1, wr .r2, wr .r3⟩
  case setStored => exact ⟨wr .ctrlOsc, wr .lcdContrast, wr .svd, wr .sioc, wr .hzc, wr .pup⟩

end Sys2Proof.Machine
end

section
/-! The P ports: every change of a latch, a pin level, a linked drive or a direction ends in `Relatch()` (20_memory.md R78,
60_exceptions.md R363 to R366). -/

namespace Sys2Proof.Machine

open Sys2Proof.Safety

/-- Port `n` drives its pins (60_exceptions.md R365). -/
def PortOut (p : Params) (io : Io) (n : Fin 4) : Prop :=
  if n = 3 ∧ p.port3Dedicated = true then p.p3DedicatedDir = .output else io.ioc.getLsbD n.val = true

/-- A port is latched: as an output it holds and drives `PD`, as an input it holds what it senses (20_memory.md R78). -/
def PortLatched (out : Prop) (q : PPort) : Prop :=
  (out → q.pv = q.pd ∧ q.drive = some q.pd) ∧ (¬ out → q.pv = q.sensed ∧ q.drive = none)

/-- Two I/O states differ in the ports only. -/
def PortsOnly (new old : Io) : Prop := new = { old with p0 := new.p0, p1 := new.p1, p2 := new.p2, p3 := new.p3 }

theorem portDir_iff (p : Params) (io : Io) (n : Fin 4) : portDir p io n = true ↔ PortOut p io n := by
  unfold portDir PortOut
  split
  · exact beq_iff_eq
  · exact Iff.rfl

theorem portDir_of_ioc {p : Params} {io io' : Io} (h : io'.ioc = io.ioc) (n : Fin 4) : portDir p io' n = portDir p io n := by
  simp only [portDir, h]

/-! ## One port among the four -/

theorem port_setPort (io : Io) (n k : Fin 4) (q : PPort) : (io.setPort n q).port k = if k = n then q else io.port k := by
  fin_cases n <;> fin_cases k <;> rfl

theorem portsOnly_setPort (io : Io) (n : Fin 4) (q : PPort) : PortsOnly (io.setPort n q) io := by
  fin_cases n <;> rfl

theorem port_relatch (p : Params) (io : Io) (k : Fin 4) : (relatch p io).port k = (io.port k).latch (portDir p io k) := by
  fin_cases k <;> rfl

theorem portsOnly_relatch (p : Params) (io : Io) : PortsOnly (relatch p io) io := rfl

theorem PortsOnly.trans {x y z : Io} (h : PortsOnly y x) (h' : PortsOnly z y) : PortsOnly z x := by
  unfold PortsOnly at *
  rw [h', h]

/-- After `Relatch()` every port is latched by its direction (20_memory.md R78). -/
theorem portLatched_relatch (p : Params) (io : Io) (k : Fin 4) :
    PortLatched (PortOut p (relatch p io) k) ((relatch p io).port k) := by
  have hdir : PortOut p (relatch p io) k ↔ portDir p io k = true := by
    rw [← portDir_iff, portDir_of_ioc (show (relatch p io).ioc = io.ioc from rfl)]
  rw [port_relatch]
  cases h : portDir p io k
  · exact ⟨fun hout => absurd (hdir.mp hout) (by simp [h]), fun _ => ⟨rfl, rfl⟩⟩
  · exact ⟨fun _ => ⟨rfl, rfl⟩, fun hout => absurd (hdir.mpr h) hout⟩

/-! ## The four ways to change a port -/

/-- The register of a P port (20_memory.md R72). -/
def portReg : Fin 4 → IoReg
  | 0 => .p0
  | 1 => .p1
  | 2 => .p2
  | 3 => .p3

theorem regAddr_portReg (n : Fin 4) : regAddr (portReg n) = BitVec.ofNat 12 (0xF60 + n.val) := by
  fin_cases n <;> rfl

theorem peek_port (p : Params) (n : Fin 4) (b : Bus) :
    peek p (BitVec.ofNat 12 (0xF60 + n.val)) b = portValue p b.io n := by
  rw [← regAddr_portReg, peek_regAddr]
  fin_cases n <;> rfl

theorem busWrite_port (p : Params) (n : Fin 4) (v : Nib) (b : Bus) :
    busWrite p (BitVec.ofNat 12 (0xF60 + n.val)) v b =
      { b with io := relatch p (b.io.setPort n { b.io.port n with pd := v }) } := by
  rw [← regAddr_portReg, busWrite_regAddr]
  fin_cases n <;> rfl

theorem busWrite_ioc (p : Params) (v : Nib) (b : Bus) :
    busWrite p 0xF7D#12 v b = { b with io := relatch p { b.io with ioc := v } } := busWrite_regAddr p .ioc v b

theorem setPin_port (n i : Fin 4) (level : Bool) (s : State) :
    setPin (.p n) i.val level.toNat s =
      withBus s { s.bus with
        io := relatch s.params (s.bus.io.setPort n { s.bus.io.port n with pl := setBit (s.bus.io.port n).pl i level }) } := by
  cases level <;> simp [setPin, pinLevel, setPortLevel]

theorem setLinkedPortDrive_port (n : Fin 4) (x : Option Nat) (s : State) :
    setLinkedPortDrive n.val x s =
      withBus s { s.bus with
        io := relatch s.params (s.bus.io.setPort n { s.bus.io.port n with ld := x.map (BitVec.ofNat 4) }) } := by
  simp [setLinkedPortDrive, setLinked]

theorem getPortDrive_port (n : Fin 4) (s : State) : getPortDrive n.val s = (s.bus.io.port n).drive := by
  simp [getPortDrive]

/-- A port that does not exist has no linked drive and drives nothing (notes/assumptions/15.md). -/
theorem setLinkedPortDrive_none {j : Nat} (hj : 4 ≤ j) (x : Option Nat) (s : State) :
    setLinkedPortDrive j x s = s ∧ getPortDrive j s = none := by
  have h : ¬ j < 4 := by omega
  exact ⟨dif_neg h, dif_neg h⟩

/-- A released P pin goes to 1 (60_exceptions.md R363). -/
theorem releasePin_port (n i : Fin 4) (s : State) : releasePin (.p n) i.val s = setPin (.p n) i.val 1 s := by
  simp [releasePin, setPin, releasedLevel]

/-- The bits of a nibble with one bit set to a level. -/
theorem setBit_getLsbD (v : Nib) (i : Fin 4) (level : Bool) (k : Nat) :
    (setBit v i level).getLsbD k = if k = i.val then level else v.getLsbD k := by
  by_cases hk : k < 4
  · have key : ∀ (v : Nib) (i : Fin 4) (level : Bool) (k : Fin 4),
        (setBit v i level).getLsbD k.val = if k.val = i.val then level else v.getLsbD k.val := by decide +kernel
    exact key v i level ⟨k, hk⟩
  · rw [if_neg (by omega), BitVec.getLsbD_of_ge _ _ (by omega), BitVec.getLsbD_of_ge _ _ (by omega)]

/-! ## A change of one port -/

/-- The I/O state after port `n` is replaced by `q` and every port latched again. -/
def relatchPort (p : Params) (io : Io) (n : Fin 4) (q : PPort) : Io := relatch p (io.setPort n q)

theorem portsOnly_relatchPort (p : Params) (io : Io) (n : Fin 4) (q : PPort) : PortsOnly (relatchPort p io n q) io :=
  (portsOnly_setPort io n q).trans (portsOnly_relatch p _)

/-- A part of the ports that `Relatch()` leaves: its driven latch, its pin levels or its linked drive. -/
def Unlatched {α : Type} (f : PPort → α) : Prop := ∀ q out, f (q.latch out) = f q

theorem unlatched_pd : Unlatched PPort.pd := fun _ _ => rfl

theorem unlatched_pl : Unlatched PPort.pl := fun _ _ => rfl

theorem unlatched_ld : Unlatched PPort.ld := fun _ _ => rfl

theorem relatch_port {α : Type} {f : PPort → α} (hf : Unlatched f) (p : Params) (io : Io) (k : Fin 4) :
    f ((relatch p io).port k) = f (io.port k) := by
  rw [port_relatch, hf]

theorem relatchPort_same {α : Type} {f : PPort → α} (hf : Unlatched f) (p : Params) (io : Io) (n : Fin 4) (q : PPort) :
    f ((relatchPort p io n q).port n) = f q := by
  rw [relatchPort, relatch_port hf, port_setPort, if_pos rfl]

theorem relatchPort_other {α : Type} {f : PPort → α} (hf : Unlatched f) {k n : Fin 4} (h : k ≠ n) (p : Params) (io : Io) (q : PPort) :
    f ((relatchPort p io n q).port k) = f (io.port k) := by
  rw [relatchPort, relatch_port hf, port_setPort, if_neg h]

/-- What the new port shares with the old one is unchanged in every port. -/
theorem relatchPort_kept {α : Type} {f : PPort → α} (hf : Unlatched f) {io : Io} {n : Fin 4} {q : PPort} (hq : f q = f (io.port n))
    (p : Params) (k : Fin 4) : f ((relatchPort p io n q).port k) = f (io.port k) := by
  by_cases h : k = n
  · rw [h, relatchPort_same hf, hq]
  · exact relatchPort_other hf h p io q

/-- A new IOC changes only what is latched. -/
theorem relatch_ioc_port {α : Type} {f : PPort → α} (hf : Unlatched f) (p : Params) (v : Nib) (io : Io) (k : Fin 4) :
    f ((relatch p { io with ioc := v }).port k) = f (io.port k) := by
  rw [relatch_port hf]
  fin_cases k <;> rfl

/-- A read of an output port gives its latch, of an input port what it senses (20_memory.md R78). -/
theorem peek_port_cases (p : Params) (n : Fin 4) (b : Bus) :
    (PortOut p b.io n → peek p (BitVec.ofNat 12 (0xF60 + n.val)) b = (b.io.port n).pd) ∧
    (¬ PortOut p b.io n → peek p (BitVec.ofNat 12 (0xF60 + n.val)) b = (b.io.port n).sensed) := by
  rw [peek_port, portValue, ← portDir_iff]
  exact ⟨fun h => if_pos h, fun h => if_neg h⟩

/-- Settles O43: each of the four changes is `relatchPort` of one port, or a latching of every port with a new IOC. -/
theorem portRelatch : Obligations.PortRelatch := by
  unfold Obligations.PortRelatch
  intro s n v x i level p out sensed latched portAddr w c pin link ported
  have hw : w = { s.bus with io := relatchPort p s.bus.io n { s.bus.io.port n with pd := v } } := busWrite_port p n v s.bus
  have hc : c = { s.bus with io := relatch p { s.bus.io with ioc := v } } := busWrite_ioc p v s.bus
  have hpin : pin = withBus s { s.bus with
      io := relatchPort p s.bus.io n { s.bus.io.port n with pl := setBit (s.bus.io.port n).pl i level } } :=
    setPin_port n i level s
  have hlink : link = withBus s { s.bus with
      io := relatchPort p s.bus.io n { s.bus.io.port n with ld := x.map (BitVec.ofNat 4) } } :=
    setLinkedPortDrive_port n x s
  have hsensed : PPort.sensed = sensed := by
    funext q
    simp only [PPort.sensed, sensed]
    cases q.ld <;> rfl
  have hlatched (io : Io) : latched (relatch p io) := fun k => hsensed ▸ portLatched_relatch p io k
  clear_value w c pin link
  subst hw hc hpin hlink
  refine ⟨⟨hlatched _, relatchPort_same unlatched_pd ..⟩, ⟨hlatched _, rfl⟩, ⟨hlatched _, fun k => ?level⟩,
    ⟨hlatched _, relatchPort_same unlatched_ld ..⟩, releasePin_port n i s, ?frame, fun k => ⟨fun hk => ?others, ?kept⟩,
    getPortDrive_port n s, fun j hj => setLinkedPortDrive_none hj x s, hsensed ▸ peek_port_cases p n s.bus⟩
  case level =>
    have hpl := relatchPort_same unlatched_pl p s.bus.io n { s.bus.io.port n with pl := setBit (s.bus.io.port n).pl i level }
    exact (congrArg (fun l : Nib => l.getLsbD k) hpl).trans (setBit_getLsbD _ i level k)
  case frame =>
    have hio (q : PPort) := portsOnly_relatchPort p s.bus.io n q
    exact ⟨congrArg (fun io => { s.bus with io := io }) (hio _), rfl,
      congrArg (fun io => withBus s { s.bus with io := io }) (hio _),
      congrArg (fun io => withBus s { s.bus with io := io }) (hio _)⟩
  case others =>
    exact ⟨relatchPort_other unlatched_pd hk .., relatchPort_other unlatched_pl hk .., relatchPort_other unlatched_ld hk ..⟩
  case kept =>
    exact ⟨relatchPort_kept unlatched_pl (by rfl) p k, relatchPort_kept unlatched_ld (by rfl) p k, relatch_ioc_port unlatched_pd ..,
      relatch_ioc_port unlatched_pl .., relatch_ioc_port unlatched_ld .., relatchPort_kept unlatched_pd (by rfl) p k, relatchPort_kept unlatched_ld (by rfl) p k,
      relatchPort_kept unlatched_pd (by rfl) p k, relatchPort_kept unlatched_pl (by rfl) p k⟩

end Sys2Proof.Machine
end

section
/-! The display frame and LCD_CTRL (20_memory.md R79, 60_exceptions.md R370 to R372). -/

namespace Sys2Proof.Machine

/-- Bit 3 of a nibble is set exactly from 8 up. -/
theorem nib_bit3_iff (v : Nib) : v.getLsbD 3 = true ↔ 8 ≤ v.toNat := by revert v; decide

/-- Below 8, bit 2 is set exactly from 4 up. -/
theorem nib_bit2_iff {v : Nib} (h : v.toNat < 8) : v.getLsbD 2 = true ↔ 4 ≤ v.toNat := by revert v; decide

/-- The frame's contents when the display shows them: VRAM, the P ports, R0 to R3 (60_exceptions.md R371). -/
def shownFrame (b : Bus) : List Nib :=
  (List.range 160).map (fun i => Memory.read b.vram i) ++
    [b.io.p0.pv, b.io.p1.pv, b.io.p2.pv, b.io.p3.pv, b.io.r0, b.io.r1, b.io.r2, b.io.r3]

/-- Blank-all wins over all-on, and either over the contents (60_exceptions.md R370, R371). -/
theorem displayFrame_blank {s : State} (h : 8 ≤ s.bus.io.lcdCtrl.toNat) : displayFrame s = List.replicate 168 0#4 :=
  if_pos ((nib_bit3_iff _).mpr h)

theorem displayFrame_allOn {s : State} (h : 4 ≤ s.bus.io.lcdCtrl.toNat) (h8 : s.bus.io.lcdCtrl.toNat < 8) :
    displayFrame s = List.replicate 168 0xF#4 :=
  (if_neg (fun hb => by have := (nib_bit3_iff _).mp hb; omega)).trans (if_pos ((nib_bit2_iff h8).mpr h))

theorem displayFrame_shown {s : State} (h : s.bus.io.lcdCtrl.toNat < 4) : displayFrame s = shownFrame s.bus := by
  have h3 : ¬ s.bus.io.lcdCtrl.getLsbD 3 = true := fun hb => by have := (nib_bit3_iff _).mp hb; omega
  have h2 : ¬ s.bus.io.lcdCtrl.getLsbD 2 = true := fun hb => by have := (nib_bit2_iff (by omega)).mp hb; omega
  simp only [displayFrame, if_neg h3, if_neg h2, shownFrame, List.append_assoc, List.cons_append, List.nil_append]

theorem shownFrame_length (b : Bus) : (shownFrame b).length = 168 := by
  simp only [shownFrame, List.length_append, List.length_map, List.length_range, List.length_cons, List.length_nil]

/-- The frame has 168 nibbles, whatever LCD_CTRL holds (60_exceptions.md R371). -/
theorem displayFrame_length (s : State) : (displayFrame s).length = 168 := by
  by_cases h8 : 8 ≤ s.bus.io.lcdCtrl.toNat
  · rw [displayFrame_blank h8, List.length_replicate]
  by_cases h4 : 4 ≤ s.bus.io.lcdCtrl.toNat
  · rw [displayFrame_allOn h4 (by omega), List.length_replicate]
  · rw [displayFrame_shown (by omega), shownFrame_length]

/-- Settles O45: the three frames by the value of LCD_CTRL. -/
theorem display : Obligations.Display := by
  unfold Obligations.Display
  intro s v seen io frame
  refine ⟨?write, displayFrame_length s, fun h n hn => ?blank, fun ⟨h4, h8⟩ n hn => ?allOn, fun h => ?shown, ?generation,
    fun h => if_neg h⟩
  case write =>
    refine (busWrite_regAddr s.params .lcdCtrl v s.bus).trans ?_
    simp only [ioWrite, lcdWrite, eq_comm (a := v), io]
  case blank =>
    have hframe : frame = List.replicate 168 0#4 := displayFrame_blank h
    exact List.eq_of_mem_replicate (hframe ▸ hn)
  case allOn =>
    have hframe : frame = List.replicate 168 0xF#4 := displayFrame_allOn h4 h8
    exact List.eq_of_mem_replicate (hframe ▸ hn)
  case shown =>
    have hframe : frame = shownFrame s.bus := displayFrame_shown h
    have hvram : ((List.range 160).map (fun i => Memory.read s.bus.vram i)).length = 160 := by simp
    rw [hframe, shownFrame]
    refine ⟨fun k hk => ?_, List.drop_left' hvram⟩
    rw [List.getElem?_append_left (by omega), List.getElem?_map, List.getElem?_range hk, Option.map_some]
  case generation => simp only [getDisplayGeneration, ite_eq_left_iff, reduceCtorEq, imp_false, not_not]

end Sys2Proof.Machine
end

section
/-! The buzzer's control writes (20_memory.md R77, R80, 60_exceptions.md R350 to R354). -/

namespace Sys2Proof.Machine

/-- The state before `BuzzerUpdate()`: the envelope restarted where the write asks for it (60_exceptions.md R353). -/
def restarted (p : Params) (restart : Bool) (b : Bus) : Bus := if restart then envRestart p b else b

/-- Whether `BuzzerUpdate()` after a write leaves the envelope restarted: the write asks for it or the request rises
(60_exceptions.md R351, R353). -/
def restarts (p : Params) (restart : Bool) (b : Bus) : Bool := restart || (buzzerRequest p b && !b.bz.prevRequest)

/-- The output with the envelope level `level` (60_exceptions.md R352). -/
def outputAt (p : Params) (level : Nat) (b : Bus) : BuzzerEvent :=
  let gain : Rat := if b.io.enon then (level : Rat) / 7 else 1
  if buzzerRequest p b = true ∧ 0 < gain then ⟨true, p.oscHz / p.bzDiv.toList.getD b.io.bzfq.toNat 1, gain⟩ else ⟨false, 0, 0⟩

/-- `BZ_DIV[BZFQ]` as an element of the list (60_exceptions.md R352). -/
theorem buzzerHz_eq (p : Params) (b : Bus) : buzzerHz p b = p.oscHz / p.bzDiv.toList.getD b.io.bzfq.toNat 1 := by
  have h : b.io.bzfq.toNat < 8 := b.io.bzfq.isLt
  simp [buzzerHz, List.getD_eq_getElem?_getD, Vector.getElem?_eq_getElem h]

/-- The gain is positive exactly when the envelope is off or its level is not 0 (60_exceptions.md R352). -/
theorem buzzerGain_pos_iff (b : Bus) : 0 < buzzerGain b ↔ (!b.io.enon || b.bz.envLevel.val != 0) = true := by
  unfold buzzerGain
  cases b.io.enon
  · simp
  · simp [Nat.pos_iff_ne_zero, Fin.val_eq_zero_iff]

/-- `Event()` is the output at the current level (60_exceptions.md R352). -/
theorem buzzerEvent_eq (p : Params) (b : Bus) : buzzerEvent p b = outputAt p b.bz.envLevel.val b := by
  simp only [buzzerEvent, outputAt, Bool.and_eq_true, ← buzzerGain_pos_iff, buzzerHz_eq]
  rfl

/-- `ENV_STEP_TICKS[ENRTM]` and `SHOT_TICKS[SHTPW]`, the two elements by cases (60_exceptions.md R353, R354). -/
theorem ticks_eq (ticks : Vector Nat 2) (x : Bool) (h : x.toNat < 2) : ticks[x.toNat]'h = if x then ticks[1] else ticks[0] := by
  cases x <;> rfl

/-- Change only the last request. -/
def withRequest (req : Bool) (b : Bus) : Bus := { b with bz := { b.bz with prevRequest := req } }

/-- The state when `BuzzerUpdate()` comes to the event (60_exceptions.md R351). -/
def requested (p : Params) (restart : Bool) (b : Bus) : Bus :=
  withRequest (buzzerRequest p b) (restarted p (restarts p restart b) b)

theorem buzzerUpdate_eq (p : Params) (b : Bus) : buzzerUpdate p b = emitIfChanged p (requested p false b) := rfl

/-- A restart asked for before a rising request is one restart. -/
theorem requested_restarted (p : Params) (restart : Bool) (b : Bus) :
    requested p false (restarted p restart b) = requested p restart b := by
  cases restart
  · rfl
  · show withRequest (buzzerRequest p b) (restarted p (false || (buzzerRequest p b && !b.bz.prevRequest)) (envRestart p b)) = _
    cases (buzzerRequest p b && !b.bz.prevRequest) <;> rfl

theorem buzzerUpdate_restarted (p : Params) (restart : Bool) (b : Bus) :
    buzzerUpdate p (restarted p restart b) = emitIfChanged p (requested p restart b) := by
  rw [buzzerUpdate_eq, requested_restarted]

/-- The fields of the buzzer that a restart decides. -/
theorem requested_eq (p : Params) (restart : Bool) (b : Bus) :
    requested p restart b =
      { b with bz := { b.bz with
        envLevel := if restarts p restart b then 7 else b.bz.envLevel
        envCount := if restarts p restart b then envStep p b else b.bz.envCount
        prevRequest := buzzerRequest p b } } := by
  unfold requested
  cases restarts p restart b <;> rfl

/-- `EmitIfChanged()` field by field: the last event is the current one, and it is emitted exactly when it is new
(60_exceptions.md R352). -/
theorem emitIfChanged_eq (p : Params) (b : Bus) :
    emitIfChanged p b =
      { b with
        bz := { b.bz with lastEvent := buzzerEvent p b }
        events := if buzzerEvent p b = b.bz.lastEvent then b.events else b.events ++ [.buzzer (buzzerEvent p b)] } := by
  unfold emitIfChanged
  dsimp only
  split
  · next h => rw [h]
  · rfl

/-- What a control write leaves, given the state `b` with the bits of the write stored and its action done but for the envelope
(60_exceptions.md R350 to R354). -/
def Settled (p : Params) (restart : Bool) (b c : Bus) : Prop :=
  let level : Nat := if restarts p restart b then 7 else b.bz.envLevel.val
  let count := if restarts p restart b then (if b.io.enrtm then p.envStepTicks[1] else p.envStepTicks[0]) else b.bz.envCount
  let e := outputAt p level b
  c.io = b.io ∧ c.ram = b.ram ∧ c.vram = b.vram ∧ c.clk = b.clk ∧ c.displayGeneration = b.displayGeneration ∧
    c.bz.shotActive = b.bz.shotActive ∧ c.bz.shotCount = b.bz.shotCount ∧ c.bz.envLevel.val = level ∧
    c.bz.envCount = count ∧ c.bz.prevRequest = buzzerRequest p b ∧ c.bz.lastEvent = e ∧
    c.events = if e = b.bz.lastEvent then b.events else b.events ++ [.buzzer e]

/-- `BuzzerUpdate()` settles the buzzer, with or without a restart asked for. -/
theorem settled_buzzerUpdate (p : Params) (restart : Bool) (b : Bus) :
    Settled p restart b (buzzerUpdate p (restarted p restart b)) := by
  have hlevel : (requested p restart b).bz.envLevel.val = if restarts p restart b then 7 else b.bz.envLevel.val := by
    rw [requested_eq]
    exact apply_ite Fin.val ..
  have hevent : buzzerEvent p (requested p restart b) = outputAt p (if restarts p restart b then 7 else b.bz.envLevel.val) b := by
    rw [buzzerEvent_eq, hlevel, requested_eq]
    rfl
  rw [buzzerUpdate_restarted, emitIfChanged_eq, hevent, requested_eq]
  refine ⟨rfl, rfl, rfl, rfl, rfl, rfl, rfl, apply_ite Fin.val .., ?_, rfl, rfl, rfl⟩
  simp only [envStep, ticks_eq]

/-- `BZSHOT` starts a pulse unless one is active (60_exceptions.md R354). -/
theorem shotStart_if (p : Params) (fire : Bool) (b : Bus) :
    (if fire then shotStart p b else b) =
      { b with bz := { b.bz with
        shotActive := b.bz.shotActive || fire
        shotCount := if fire && !b.bz.shotActive then (if b.io.shtpw then p.shotTicks[1] else p.shotTicks[0])
          else b.bz.shotCount } } := by
  obtain ⟨_, _, _, _, ⟨active, _, _, _, _, _⟩, _, _⟩ := b
  cases fire
  · cases active <;> rfl
  · cases active
    · simp [shotStart, ticks_eq]
    · rfl

/-- Settles O46: each of the three writes stores its bits, and `settled_buzzerUpdate` says what follows. -/
theorem buzzerControls : Obligations.BuzzerControls := by
  unfold Obligations.BuzzerControls
  intro p v b settled fire io2
  refine ⟨?r4, ?bzc1, ?bzc2⟩
  case r4 =>
    have hw : busWrite p 0xF54#12 v b = buzzerUpdate p (restarted p false { b with io := { b.io with r4 := v } }) :=
      busWrite_regAddr p .r4 v b
    rw [hw]
    exact settled_buzzerUpdate p false _
  case bzc1 =>
    have hw : busWrite p 0xF74#12 v b =
        buzzerUpdate p (restarted p (v.getLsbD 3) { b with io := { b.io with bzfq := v.extractLsb' 0 3 } }) :=
      busWrite_regAddr p .bzc1 v b
    rw [hw, lowBits_eq_ofNat]
    exact settled_buzzerUpdate p (v.getLsbD 3) _
  case bzc2 =>
    have hw : busWrite p 0xF75#12 v b =
        buzzerUpdate p (restarted p false (if v.getLsbD 3 then shotStart p { b with io := io2 } else { b with io := io2 })) :=
      busWrite_regAddr p .bzc2 v b
    rw [hw, shotStart_if]
    exact settled_buzzerUpdate p false _

end Sys2Proof.Machine
end

section
/-! The instruction formats (30_encoding.md R131, R132) as numbers: a format and its fields are inverse to each other. -/

namespace Sys2Proof

/-- The number of two fields side by side. -/
theorem append_toNat {m n : Nat} (x : BitVec m) (y : BitVec n) : (x ++ y).toNat = x.toNat * 2 ^ n + y.toNat := by
  rw [BitVec.toNat_append, ← Nat.shiftLeft_add_eq_or_of_lt y.isLt, Nat.shiftLeft_eq]

theorem Sel.bits_ofBits (k : BitVec 2) : (Sel.ofBits k).bits = k := by revert k; decide

theorem Sel.ofBits_bits (r : Sel) : Sel.ofBits r.bits = r := by cases r <;> rfl

theorem Sel.bits_toNat_injective {r q : Sel} (h : r.bits.toNat = q.bits.toNat) : r = q := by
  rw [← Sel.ofBits_bits r, BitVec.eq_of_toNat_eq h, Sel.ofBits_bits]

/-! ## The formats -/

theorem fmtS8_toNat (o : BitVec 4) (s : Byte) : (fmtS8 o s).toNat = o.toNat * 256 + s.toNat := append_toNat o s

theorem fmtP5_toNat (o : BitVec 7) (p : BitVec 5) : (fmtP5 o p).toNat = o.toNat * 32 + p.toNat := append_toNat o p

theorem fmtRI_toNat (o : BitVec 6) (r : Sel) (i : Nib) : (fmtRI o r i).toNat = o.toNat * 64 + (r.bits.toNat * 16 + i.toNat) :=
  (append_toNat o _).trans (congrArg _ (append_toNat r.bits i))

theorem fmtI4_toNat (o : BitVec 8) (i : Nib) : (fmtI4 o i).toNat = o.toNat * 16 + i.toNat := append_toNat o i

theorem fmtRQ_toNat (o : BitVec 8) (r q : Sel) : (fmtRQ o r q).toNat = o.toNat * 16 + (r.bits.toNat * 4 + q.bits.toNat) :=
  (append_toNat o _).trans (congrArg _ (append_toNat r.bits q.bits))

theorem fmtR2_toNat (o : BitVec 10) (r : Sel) : (fmtR2 o r).toNat = o.toNat * 4 + r.bits.toNat := append_toNat o r.bits

/-! ## The fields -/

theorem field4_toNat (op : Opcode) : (field4 op).toNat = op.toNat % 16 := by simp [field4]

theorem field5_toNat (op : Opcode) : (field5 op).toNat = op.toNat % 32 := by simp [field5]

theorem field8_toNat (op : Opcode) : (field8 op).toNat = op.toNat % 256 := by simp [field8]

theorem selAt0_toNat (op : Opcode) : (selAt0 op).bits.toNat = op.toNat % 4 := by simp [selAt0, Sel.bits_ofBits]

theorem selAt2_toNat (op : Opcode) : (selAt2 op).bits.toNat = op.toNat / 4 % 4 := by
  simp [selAt2, Sel.bits_ofBits, Nat.shiftRight_eq_div_pow]

theorem selAt4_toNat (op : Opcode) : (selAt4 op).bits.toNat = op.toNat / 16 % 4 := by
  simp [selAt4, Sel.bits_ofBits, Nat.shiftRight_eq_div_pow]

/-! ## The fields of a format -/

@[simp] theorem field8_fmtS8 (o : BitVec 4) (s : Byte) : field8 (fmtS8 o s) = s := by
  apply BitVec.eq_of_toNat_eq
  rw [field8_toNat, fmtS8_toNat]
  omega

@[simp] theorem field5_fmtP5 (o : BitVec 7) (p : BitVec 5) : field5 (fmtP5 o p) = p := by
  apply BitVec.eq_of_toNat_eq
  rw [field5_toNat, fmtP5_toNat]
  omega

@[simp] theorem selAt4_fmtRI (o : BitVec 6) (r : Sel) (i : Nib) : selAt4 (fmtRI o r i) = r := by
  apply Sel.bits_toNat_injective
  rw [selAt4_toNat, fmtRI_toNat]
  omega

@[simp] theorem field4_fmtRI (o : BitVec 6) (r : Sel) (i : Nib) : field4 (fmtRI o r i) = i := by
  apply BitVec.eq_of_toNat_eq
  rw [field4_toNat, fmtRI_toNat]
  omega

@[simp] theorem field4_fmtI4 (o : BitVec 8) (i : Nib) : field4 (fmtI4 o i) = i := by
  apply BitVec.eq_of_toNat_eq
  rw [field4_toNat, fmtI4_toNat]
  omega

@[simp] theorem selAt2_fmtRQ (o : BitVec 8) (r q : Sel) : selAt2 (fmtRQ o r q) = r := by
  apply Sel.bits_toNat_injective
  rw [selAt2_toNat, fmtRQ_toNat]
  omega

@[simp] theorem selAt0_fmtRQ (o : BitVec 8) (r q : Sel) : selAt0 (fmtRQ o r q) = q := by
  apply Sel.bits_toNat_injective
  rw [selAt0_toNat, fmtRQ_toNat]
  omega

@[simp] theorem selAt0_fmtR2 (o : BitVec 10) (r : Sel) : selAt0 (fmtR2 o r) = r := by
  apply Sel.bits_toNat_injective
  rw [selAt0_toNat, fmtR2_toNat]
  omega

/-! ## The format of the fields -/

theorem fmtS8_fields {o : BitVec 4} {op : Opcode} (h : op.toNat / 256 = o.toNat) : fmtS8 o (field8 op) = op := by
  apply BitVec.eq_of_toNat_eq
  rw [fmtS8_toNat, field8_toNat]
  omega

theorem fmtP5_fields {o : BitVec 7} {op : Opcode} (h : op.toNat / 32 = o.toNat) : fmtP5 o (field5 op) = op := by
  apply BitVec.eq_of_toNat_eq
  rw [fmtP5_toNat, field5_toNat]
  omega

theorem fmtRI_fields {o : BitVec 6} {op : Opcode} (h : op.toNat / 64 = o.toNat) : fmtRI o (selAt4 op) (field4 op) = op := by
  apply BitVec.eq_of_toNat_eq
  rw [fmtRI_toNat, selAt4_toNat, field4_toNat]
  omega

theorem fmtI4_fields {o : BitVec 8} {op : Opcode} (h : op.toNat / 16 = o.toNat) : fmtI4 o (field4 op) = op := by
  apply BitVec.eq_of_toNat_eq
  rw [fmtI4_toNat, field4_toNat]
  omega

theorem fmtRQ_fields {o : BitVec 8} {op : Opcode} (h : op.toNat / 16 = o.toNat) : fmtRQ o (selAt2 op) (selAt0 op) = op := by
  apply BitVec.eq_of_toNat_eq
  rw [fmtRQ_toNat, selAt2_toNat, selAt0_toNat]
  omega

theorem fmtR2_fields {o : BitVec 10} {op : Opcode} (h : op.toNat / 4 = o.toNat) : fmtR2 o (selAt0 op) = op := by
  apply BitVec.eq_of_toNat_eq
  rw [fmtR2_toNat, selAt0_toNat]
  omega

end Sys2Proof
end

section
/-! The opcode map (30_encoding.md R133, R138, R139): every row is an interval of values, the intervals do not overlap and leave no
value out, so the decoder answers what the one row of a value builds. -/

namespace Sys2Proof

/-- The last value of a row: its first is the pattern, and the bits outside the mask are free. -/
def OpRow.last (row : OpRow) : Nat := row.pat + (0xFFF - row.mask)

/-- A value lies in the interval of a row. -/
def OpRow.Covers (row : OpRow) (op : Opcode) : Prop := row.pat ≤ op.toNat ∧ op.toNat ≤ row.last

/-- A mask of all but the low `k` bits rounds down to a multiple of `2 ^ k`. -/
theorem and_highMask {n k : Nat} (hn : n < 2 ^ 12) (hk : k ≤ 12) : n &&& (2 ^ 12 - 2 ^ k) = n / 2 ^ k * 2 ^ k := by
  have hmask : 2 ^ 12 - 2 ^ k = (2 ^ (12 - k) - 1) <<< k := by
    rw [Nat.shiftLeft_eq, Nat.sub_mul, ← Nat.pow_add, Nat.sub_add_cancel hk, Nat.one_mul]
  rw [hmask, ← Nat.shiftRight_eq_div_pow, ← Nat.shiftLeft_eq]
  apply Nat.eq_of_testBit_eq
  intro j
  simp only [Nat.testBit_and, Nat.testBit_shiftLeft, Nat.testBit_two_pow_sub_one, Nat.testBit_shiftRight]
  by_cases hj : k ≤ j
  · by_cases hj12 : j < 12
    · simp [hj, show k + (j - k) = j by omega, show j - k < 12 - k by omega]
    · have hbit : n.testBit j = false := Nat.testBit_lt_two_pow (hn.trans_le (Nat.pow_le_pow_right (by omega) (by omega)))
      simp [hj, show k + (j - k) = j by omega, hbit]
  · simp [hj]

/-- The rows are aligned intervals: the mask leaves the low `k` bits free, and the pattern has them 0. -/
theorem opRows_aligned : ∀ row ∈ opRows, ∃ k ∈ List.range 9, row.mask = 2 ^ 12 - 2 ^ k ∧ row.pat % 2 ^ k = 0 := by
  decide +kernel

theorem holds_iff_covers {row : OpRow} (hrow : row ∈ opRows) (op : Opcode) : row.holds op = true ↔ row.Covers op := by
  obtain ⟨k, hk, hmask, hpat⟩ := opRows_aligned row hrow
  have hk9 := List.mem_range.mp hk
  have hn := op.isLt
  rw [OpRow.holds, Nat.beq_eq, hmask, and_highMask hn (by omega), OpRow.Covers, OpRow.last, hmask]
  interval_cases k <;> omega

/-- No two rows share a value. -/
theorem opRows_apart : opRows.Pairwise fun row row' => row.last < row'.pat ∨ row'.last < row.pat := by decide +kernel

/-- A row that covers a value is the only one. -/
theorem eq_of_covers {row row' : OpRow} {op : Opcode} (hrow : row ∈ opRows) (hrow' : row' ∈ opRows) (h : row.Covers op)
    (h' : row'.Covers op) : row = row' := by
  by_contra hne
  have hsymm : Std.Symm fun row row' : OpRow => row.last < row'.pat ∨ row'.last < row.pat := ⟨fun _ _ => Or.symm⟩
  obtain ⟨hfirst, hlast⟩ := h
  obtain ⟨hfirst', hlast'⟩ := h'
  obtain hlt | hlt := opRows_apart.forall hrow hrow' hne
  · omega
  · omega

/-- The decoder builds the instruction of the row that covers the value (30_encoding.md R138). -/
theorem decode_of_covers {row : OpRow} {op : Opcode} (hrow : row ∈ opRows) (h : row.Covers op) : decode op = row.build op := by
  unfold decode
  cases hfind : opRows.find? (fun row => row.holds op) with
  | none => exact absurd ((holds_iff_covers hrow op).mpr h) (List.find?_eq_none.mp hfind row hrow)
  | some found =>
    have hmem := List.mem_of_find?_eq_some hfind
    have hcov := (holds_iff_covers hmem op).mp (List.find?_eq_some_iff_append.mp hfind).1
    rw [eq_of_covers hmem hrow hcov h]

/-- The row that begins at a value. -/
def rowAt (n : Nat) : Option OpRow := opRows.find? (fun row => row.pat.beq n)

theorem rowAt_mem {n : Nat} {row : OpRow} (h : rowAt n = some row) : row ∈ opRows := List.mem_of_find?_eq_some h

theorem rowAt_pat {n : Nat} {row : OpRow} (h : rowAt n = some row) : row.pat = n :=
  Nat.eq_of_beq_eq_true (List.find?_eq_some_iff_append.mp h).1

/-- After the last value of a row the next row begins, up to 0xFFF. -/
theorem opRows_adjacent : ∀ row ∈ opRows, row.last = 0xFFF ∨ (rowAt (row.last + 1)).isSome = true := by decide +kernel

/-- Every value is in a row (30_encoding.md R138), by counting up from 0x000. -/
theorem exists_row (n : Nat) (hn : n ≤ 0xFFF) : ∃ row ∈ opRows, row.pat ≤ n ∧ n ≤ row.last := by
  induction n with
  | zero => exact ⟨⟨0xF00, 0x000, fun op => .jp (field8 op)⟩, .head _, by decide⟩
  | succ n ih =>
    obtain ⟨row, hrow, hfirst, hlast⟩ := ih (by omega)
    by_cases hin : n + 1 ≤ row.last
    · exact ⟨row, hrow, by omega, hin⟩
    · obtain hend | hnext := opRows_adjacent row hrow
      · omega
      · obtain ⟨next, hnext⟩ := Option.isSome_iff_exists.mp hnext
        have hpat := rowAt_pat hnext
        exact ⟨next, rowAt_mem hnext, by omega, by unfold OpRow.last; omega⟩

theorem exists_covers (op : Opcode) : ∃ row ∈ opRows, row.Covers op := exists_row op.toNat (by have := op.isLt; omega)

end Sys2Proof
end

section
/-! Decoding what the encoder gives (30_encoding.md R131, R133, R136): one lemma per format, for whichever instruction the table has at
the format's first value. -/

namespace Sys2Proof

/-- A value from the first value of a row to its last decodes by that row. -/
theorem decode_of_rowAt {first op : Opcode} {row : OpRow} {i : Instr} (hrow : rowAt first.toNat = some row)
    (hbuild : row.build op = i) (hop : first.toNat ≤ op.toNat ∧ op.toNat ≤ first.toNat + (0xFFF - row.mask)) : decode op = i := by
  rw [← hbuild]
  apply decode_of_covers (rowAt_mem hrow)
  rwa [OpRow.Covers, OpRow.last, rowAt_pat hrow]

theorem decode_fmtS8 {o : BitVec 4} {pat : Nat} {f : Byte → Instr}
    (hrow : rowAt (fmtS8 o 0#8).toNat = some ⟨0xF00, pat, fun op => f (field8 op)⟩) (s : Byte) : decode (fmtS8 o s) = f s := by
  apply decode_of_rowAt hrow (congrArg f (field8_fmtS8 o s))
  simp only [fmtS8_toNat, BitVec.toNat_ofNat]
  omega

theorem decode_fmtP5 {o : BitVec 7} {pat : Nat} {f : BitVec 5 → Instr}
    (hrow : rowAt (fmtP5 o 0#5).toNat = some ⟨0xFE0, pat, fun op => f (field5 op)⟩) (p : BitVec 5) : decode (fmtP5 o p) = f p := by
  apply decode_of_rowAt hrow (congrArg f (field5_fmtP5 o p))
  simp only [fmtP5_toNat, BitVec.toNat_ofNat]
  omega

theorem decode_fmtRI {o : BitVec 6} {pat : Nat} {f : Sel → Nib → Instr}
    (hrow : rowAt (fmtRI o .a 0#4).toNat = some ⟨0xFC0, pat, fun op => f (selAt4 op) (field4 op)⟩) (r : Sel) (i : Nib) :
    decode (fmtRI o r i) = f r i := by
  apply decode_of_rowAt hrow (congrArg₂ f (selAt4_fmtRI o r i) (field4_fmtRI o r i))
  simp only [fmtRI_toNat, Sel.bits, BitVec.toNat_ofNat]
  omega

theorem decode_fmtI4 {o : BitVec 8} {pat : Nat} {f : Nib → Instr}
    (hrow : rowAt (fmtI4 o 0#4).toNat = some ⟨0xFF0, pat, fun op => f (field4 op)⟩) (i : Nib) : decode (fmtI4 o i) = f i := by
  apply decode_of_rowAt hrow (congrArg f (field4_fmtI4 o i))
  simp only [fmtI4_toNat, BitVec.toNat_ofNat]
  omega

theorem decode_fmtRQ {o : BitVec 8} {pat : Nat} {f : Sel → Sel → Instr}
    (hrow : rowAt (fmtRQ o .a .a).toNat = some ⟨0xFF0, pat, fun op => f (selAt2 op) (selAt0 op)⟩) (r q : Sel) :
    decode (fmtRQ o r q) = f r q := by
  apply decode_of_rowAt hrow (congrArg₂ f (selAt2_fmtRQ o r q) (selAt0_fmtRQ o r q))
  simp only [fmtRQ_toNat, Sel.bits, BitVec.toNat_ofNat]
  omega

theorem decode_fmtR2 {o : BitVec 10} {pat : Nat} {f : Sel → Instr}
    (hrow : rowAt (fmtR2 o .a).toNat = some ⟨0xFFC, pat, fun op => f (selAt0 op)⟩) (r : Sel) : decode (fmtR2 o r) = f r := by
  apply decode_of_rowAt hrow (congrArg f (selAt0_fmtR2 o r))
  simp only [fmtR2_toNat, Sel.bits, BitVec.toNat_ofNat]
  omega

end Sys2Proof
end

section
/-! Encoding what the decoder builds (30_encoding.md R133, R134, R138): every row of the opcode map builds, for each value it covers, an
instruction with that value. -/

namespace Sys2Proof

open Safety

/-- `op` is a value of the row of `i`, and `i` is what the decoder may answer for it (30_encoding.md R133, R136, R138). -/
def Instr.HasOpcode (i : Instr) (op : Opcode) : Prop :=
  inRanges i op = true ∧ i.wf = true ∧ i.isAlias = false ∧ encode i = op

/-- A row builds, for each value it covers, an instruction with that value. -/
def OpRow.Sound (row : OpRow) : Prop := ∀ op, row.Covers op → (row.build op).HasOpcode op

/-- `i` is encoded as `op`, and its values are those of a row with this mask and pattern. -/
def Instr.HasRow (i : Instr) (mask pat : Nat) (op : Opcode) : Prop :=
  encode i = op ∧ opRanges i = [(pat, pat + (0xFFF - mask))] ∧ i.wf = true ∧ i.isAlias = false

theorem Instr.HasRow.hasOpcode {i : Instr} {mask pat : Nat} {v op : Opcode} (h : i.HasRow mask pat v) (hv : v = op)
    (hop : pat ≤ op.toNat ∧ op.toNat ≤ pat + (0xFFF - mask)) : i.HasOpcode op := by
  obtain ⟨henc, hrange, hwf, halias⟩ := h
  exact ⟨by simp [inRanges, hrange, hop], hwf, halias, henc.trans hv⟩

/-- The fixed bits of the values of a row with `n` values are those of its pattern. -/
theorem OpRow.Covers.div_eq {row : OpRow} {op : Opcode} {n o : Nat} (h : row.Covers op) (hn : 0 < n ∧ n ≤ 0x1000)
    (hmask : row.mask = 0x1000 - n) (hpat : row.pat = o * n) : op.toNat / n = o := by
  obtain ⟨hfirst, hlast⟩ := h
  rw [OpRow.last, hmask, hpat] at hlast
  apply Nat.div_eq_of_lt_le
  · omega
  · rw [Nat.succ_mul]
    omega

/-! ## A row of each format -/

theorem sound_fmtS8 {o : BitVec 4} {pat : Nat} {f : Byte → Instr} (hf : ∀ s, (f s).HasRow 0xF00 pat (fmtS8 o s))
    (hpat : pat = o.toNat * 256) : OpRow.Sound ⟨0xF00, pat, fun op => f (field8 op)⟩ :=
  fun _ hop => (hf _).hasOpcode (fmtS8_fields (hop.div_eq (by decide) rfl hpat)) hop

theorem sound_fmtP5 {o : BitVec 7} {pat : Nat} {f : BitVec 5 → Instr} (hf : ∀ p, (f p).HasRow 0xFE0 pat (fmtP5 o p))
    (hpat : pat = o.toNat * 32) : OpRow.Sound ⟨0xFE0, pat, fun op => f (field5 op)⟩ :=
  fun _ hop => (hf _).hasOpcode (fmtP5_fields (hop.div_eq (by decide) rfl hpat)) hop

theorem sound_fmtRI {o : BitVec 6} {pat : Nat} {f : Sel → Nib → Instr} (hf : ∀ r i, (f r i).HasRow 0xFC0 pat (fmtRI o r i))
    (hpat : pat = o.toNat * 64) : OpRow.Sound ⟨0xFC0, pat, fun op => f (selAt4 op) (field4 op)⟩ :=
  fun _ hop => (hf _ _).hasOpcode (fmtRI_fields (hop.div_eq (by decide) rfl hpat)) hop

theorem sound_fmtI4 {o : BitVec 8} {pat : Nat} {f : Nib → Instr} (hf : ∀ i, (f i).HasRow 0xFF0 pat (fmtI4 o i))
    (hpat : pat = o.toNat * 16) : OpRow.Sound ⟨0xFF0, pat, fun op => f (field4 op)⟩ :=
  fun _ hop => (hf _).hasOpcode (fmtI4_fields (hop.div_eq (by decide) rfl hpat)) hop

theorem sound_fmtRQ {o : BitVec 8} {pat : Nat} {f : Sel → Sel → Instr} (hf : ∀ r q, (f r q).HasRow 0xFF0 pat (fmtRQ o r q))
    (hpat : pat = o.toNat * 16) : OpRow.Sound ⟨0xFF0, pat, fun op => f (selAt2 op) (selAt0 op)⟩ :=
  fun _ hop => (hf _ _).hasOpcode (fmtRQ_fields (hop.div_eq (by decide) rfl hpat)) hop

theorem sound_fmtR2 {o : BitVec 10} {pat : Nat} {f : Sel → Instr} (hf : ∀ r, (f r).HasRow 0xFFC pat (fmtR2 o r))
    (hpat : pat = o.toNat * 4) : OpRow.Sound ⟨0xFFC, pat, fun op => f (selAt0 op)⟩ :=
  fun _ hop => (hf _).hasOpcode (fmtR2_fields (hop.div_eq (by decide) rfl hpat)) hop

/-- A row of one value. -/
theorem sound_word {pat : Nat} {f : Opcode → Instr} (hf : (f (opc pat)).HasOpcode (opc pat)) (hpat : pat < 4096) :
    OpRow.Sound ⟨0xFFF, pat, f⟩ := by
  intro op ⟨hfirst, hlast⟩
  have hop : opc pat = op := by
    apply BitVec.eq_of_toNat_eq
    rw [opc, BitVec.toNat_ofNat, Nat.mod_eq_of_lt hpat]
    exact le_antisymm hfirst hlast
  exact hop ▸ hf

/-! ## The undefined values -/

/-- The undefined values are those in the ranges of their row (30_encoding.md R134). -/
theorem undefinedOpcode_iff (op : Opcode) :
    undefinedOpcode op = true ↔ ∃ r ∈ opRanges (.undefined op), r.1 ≤ op.toNat ∧ op.toNat ≤ r.2 := by
  simp only [undefinedOpcode, opRanges, Bool.or_eq_true, decide_eq_true_eq, List.mem_cons, List.not_mem_nil, or_false,
    exists_eq_or_imp, exists_eq_left]
  omega

/-- A row of undefined values lies in one of their ranges. -/
theorem sound_undefined {mask pat : Nat}
    (h : ∃ r ∈ opRanges (.undefined 0#12), r.1 ≤ pat ∧ pat + (0xFFF - mask) ≤ r.2) :
    OpRow.Sound ⟨mask, pat, fun op => .undefined op⟩ := by
  intro op ⟨hfirst, hlast⟩
  obtain ⟨r, hr, hlo, hhi⟩ := h
  have hwf : undefinedOpcode op = true := (undefinedOpcode_iff op).mpr ⟨r, hr, hlo.trans hfirst, hlast.trans hhi⟩
  exact ⟨Laws.Encoding.undefined op hwf, hwf, rfl, rfl⟩

/-- The undefined values one by one. -/
def undefinedValues : List Nat := (opRanges (.undefined 0#12)).flatMap fun r => List.range' r.1 (r.2 + 1 - r.1)

theorem mem_undefinedValues (op : Opcode) : op.toNat ∈ undefinedValues ↔ undefinedOpcode op = true := by
  rw [undefinedOpcode_iff, undefinedValues, List.mem_flatMap]
  refine exists_congr fun r => and_congr_right fun _ => ?_
  rw [List.mem_range'_1]
  omega

theorem decode_undefined {op : Opcode} (h : undefinedOpcode op = true) : decode op = .undefined op := by
  have hvalues : ∀ n ∈ undefinedValues, decode (opc n) = .undefined (opc n) := by decide +kernel
  have hop := hvalues op.toNat ((mem_undefinedValues op).mpr h)
  rwa [opc, BitVec.ofNat_toNat, BitVec.setWidth_eq] at hop

/-- There are 73 of them (30_encoding.md R134). -/
theorem undefinedOpcode_count : ((List.range 4096).filter fun n => undefinedOpcode (opc n)).length = 73 := by
  have hsmall : ∀ n ∈ undefinedValues, n < 4096 := by decide
  have hnodup : undefinedValues.Nodup := by decide
  have hperm : ((List.range 4096).filter fun n => undefinedOpcode (opc n)).Perm undefinedValues := by
    refine (List.perm_ext_iff_of_nodup (List.nodup_range.filter _) hnodup).mpr fun n => ?_
    rw [List.mem_filter, List.mem_range, ← mem_undefinedValues]
    constructor
    · rintro ⟨hn, hmem⟩
      rwa [opc, BitVec.toNat_ofNat, Nat.mod_eq_of_lt hn] at hmem
    · intro hmem
      have hn := hsmall n hmem
      exact ⟨hn, by rwa [opc, BitVec.toNat_ofNat, Nat.mod_eq_of_lt hn]⟩
  exact hperm.length_eq

/-! ## Every row -/

theorem opRowsLow_sound : ∀ row ∈ opRowsLow, row.Sound := by
  simp only [opRowsLow, List.forall_mem_cons]
  and_intros
  iterate 10 exact sound_fmtS8 (fun _ => ⟨rfl, rfl, rfl, rfl⟩) rfl
  iterate 8 exact sound_fmtI4 (fun _ => ⟨rfl, rfl, rfl, rfl⟩) rfl
  iterate 7 exact sound_fmtRQ (fun _ _ => ⟨rfl, rfl, rfl, rfl⟩) rfl
  iterate 4 exact sound_word ⟨rfl, rfl, rfl, rfl⟩ (by decide)
  iterate 12 exact sound_undefined (by decide)
  exact List.forall_mem_nil _

theorem opRowsMid_sound : ∀ row ∈ opRowsMid, row.Sound := by
  simp only [opRowsMid, List.forall_mem_cons]
  and_intros
  · exact sound_fmtS8 (fun _ => ⟨rfl, rfl, rfl, rfl⟩) rfl
  iterate 8 exact sound_fmtRI (fun _ _ => ⟨rfl, rfl, rfl, rfl⟩) rfl
  exact List.forall_mem_nil _

theorem opRowsE_sound : ∀ row ∈ opRowsE, row.Sound := by
  simp only [opRowsE, List.forall_mem_cons]
  and_intros
  · exact sound_fmtRI (fun _ _ => ⟨rfl, rfl, rfl, rfl⟩) rfl
  · exact sound_fmtP5 (fun _ => ⟨rfl, rfl, rfl, rfl⟩) rfl
  iterate 2 exact sound_fmtI4 (fun _ => ⟨rfl, rfl, rfl, rfl⟩) rfl
  iterate 7 exact sound_fmtR2 (fun _ => ⟨rfl, rfl, rfl, rfl⟩) rfl
  · exact sound_undefined (by decide)
  iterate 3 exact sound_fmtR2 (fun _ => ⟨rfl, rfl, rfl, rfl⟩) rfl
  · exact sound_undefined (by decide)
  iterate 3 exact sound_fmtR2 (fun _ => ⟨rfl, rfl, rfl, rfl⟩) rfl
  · exact sound_undefined (by decide)
  · exact sound_fmtRQ (fun _ _ => ⟨rfl, rfl, rfl, rfl⟩) rfl
  · exact sound_undefined (by decide)
  iterate 2 exact sound_fmtRQ (fun _ _ => ⟨rfl, rfl, rfl, rfl⟩) rfl
  exact List.forall_mem_nil _

theorem opRowsF_sound : ∀ row ∈ opRowsF, row.Sound := by
  simp only [opRowsF, List.forall_mem_cons]
  and_intros
  iterate 2 exact sound_fmtRQ (fun _ _ => ⟨rfl, rfl, rfl, rfl⟩) rfl
  · exact sound_undefined (by decide)
  iterate 2 exact sound_fmtR2 (fun _ => ⟨rfl, rfl, rfl, rfl⟩) rfl
  · exact sound_undefined (by decide)
  iterate 2 exact sound_fmtR2 (fun _ => ⟨rfl, rfl, rfl, rfl⟩) rfl
  iterate 8 exact sound_fmtI4 (fun _ => ⟨rfl, rfl, rfl, rfl⟩) rfl
  · exact sound_fmtR2 (fun _ => ⟨rfl, rfl, rfl, rfl⟩) rfl
  iterate 8 exact sound_word ⟨rfl, rfl, rfl, rfl⟩ (by decide)
  · exact sound_undefined (by decide)
  · exact sound_fmtR2 (fun _ => ⟨rfl, rfl, rfl, rfl⟩) rfl
  iterate 8 exact sound_word ⟨rfl, rfl, rfl, rfl⟩ (by decide)
  · exact sound_undefined (by decide)
  iterate 2 exact sound_word ⟨rfl, rfl, rfl, rfl⟩ (by decide)
  iterate 2 exact sound_fmtR2 (fun _ => ⟨rfl, rfl, rfl, rfl⟩) rfl
  · exact sound_word ⟨rfl, rfl, rfl, rfl⟩ (by decide)
  iterate 3 exact sound_undefined (by decide)
  iterate 2 exact sound_fmtR2 (fun _ => ⟨rfl, rfl, rfl, rfl⟩) rfl
  iterate 2 exact sound_word ⟨rfl, rfl, rfl, rfl⟩ (by decide)
  · exact sound_undefined (by decide)
  · exact sound_word ⟨rfl, rfl, rfl, rfl⟩ (by decide)
  iterate 2 exact sound_undefined (by decide)
  · exact sound_word ⟨rfl, rfl, rfl, rfl⟩ (by decide)
  exact List.forall_mem_nil _

theorem decode_hasOpcode (op : Opcode) : (decode op).HasOpcode op := by
  obtain ⟨row, hrow, hop⟩ := exists_covers op
  rw [decode_of_covers hrow hop]
  have hsound : ∀ row ∈ opRows, row.Sound := by
    simp only [opRows, List.forall_mem_append]
    exact ⟨⟨⟨opRowsLow_sound, opRowsMid_sound⟩, opRowsE_sound⟩, opRowsF_sound⟩
  exact hsound row hrow op hop

/-- Settles O2: the one row that covers the value is sound. -/
theorem opcodeMap : Obligations.OpcodeMap := decode_hasOpcode

end Sys2Proof
end

section
/-! The round trip of every instruction, and what follows for the second spellings, the written-out words and the system instructions
(30_encoding.md R131 to R136, 42_system.md R170 to R176). -/

namespace Sys2Proof.Machine

open Sys2Proof.Safety

/-- The decoder undoes the encoder, up to the spelling (30_encoding.md R131, R136). The last cases have no operand: their words are
looked up in the map. -/
theorem decode_encode {i : Instr} (hwf : i.wf = true) : decode (encode i) = i.base := by
  cases i
  case jp | retd | jpC | jpNC | call | calz | jpZ | jpNZ | ldY | lbpx | ldX => exact decode_fmtS8 rfl _
  case pset => exact decode_fmtP5 rfl _
  case addRI | adcRI | andRI | orRI | xorRI | sbcRI | fanRI | cpRI | ldRI => exact decode_fmtRI rfl _ _
  case adcXH | adcXL | adcYH | adcYL | cpXH | cpXL | cpYH | cpYL | ldpxI | ldpyI | setF | rstF | incM | decM | ldMA | ldMB | ldAM |
      ldBM => exact decode_fmtI4 rfl _
  case addRQ | adcRQ | subRQ | sbcRQ | andRQ | orRQ | xorRQ | ldRQ | ldpxRQ | ldpyRQ | cpRQ | fanRQ => exact decode_fmtRQ rfl _ _
  case ldXP | ldXH | ldXL | rrc | ldYP | ldYH | ldYL | ldRXP | ldRXH | ldRXL | ldRYP | ldRYH | ldRYL | acpx | acpy | scpx | scpy |
      push | pop | ldSPH | ldRSPH | ldSPL | ldRSPL => exact decode_fmtR2 rfl _
  case rlc r => cases r <;> rfl
  case undefined op => exact decode_undefined hwf
  all_goals rfl

theorem base_of_not_alias {i : Instr} (h : i.isAlias = false) : i.base = i := by cases i <;> trivial

/-- A spelling does what its base instruction does (30_encoding.md R136). -/
theorem exec_base (i : Instr) (s : State) : exec i s = exec i.base s := by cases i <;> rfl

/-- Settles O1: each format's fields are read back from the row that its fixed bits select. -/
theorem decodeOfEncode : Obligations.DecodeOfEncode := by
  intro i hwf
  exact ⟨decode_encode hwf, fun halias => (decode_encode hwf).trans (base_of_not_alias halias)⟩

/-- The word that encodes an instruction decodes to it. -/
theorem decode_of_encode_eq {i : Instr} {op : Opcode} (henc : encode i = op) (hwf : i.wf = true) (halias : i.isAlias = false) :
    decode op = i :=
  henc ▸ (decodeOfEncode i hwf).2 halias

/-- An undefined value is one that decodes to itself as undefined (30_encoding.md R134). -/
theorem decode_eq_undefined_iff (op : Opcode) : decode op = .undefined op ↔ undefinedOpcode op = true := by
  refine ⟨fun h => ?_, decode_undefined⟩
  obtain ⟨_, hwf, _, _⟩ := decode_hasOpcode op
  rwa [h] at hwf

theorem advance_eq (n : Nat) (s : State) : advance n s = { s with cpu := nextCpu s.cpu, cost := n } := by
  rw [nextCpu, ← succ_eq_nextPc]
  rfl

theorem haltCore_eq (s : State) :
    haltCore s = { s with cpu := { s.cpu with pc := nextPc s.cpu.pc, halt := true }, cost := 5 } := by
  rw [haltCore, advance_eq]
  rfl

/-- Settles O26: the words encode their instructions, each of which advances, and the undefined values are the 73 of
`undefinedValues`. -/
theorem systemResults : Obligations.SystemResults := by
  unfold Obligations.SystemResults
  intro op s idle stop
  have hidle (n : Nat) : (.next (advance n s) : Result) = .next (idle n) := congrArg _ (advance_eq n s)
  have hstop : (.next (haltCore s) : Result) = .next stop := congrArg _ (haltCore_eq s)
  exact ⟨⟨decode_of_encode_eq rfl rfl rfl, hidle 5⟩, ⟨decode_of_encode_eq rfl rfl rfl, hidle 7⟩,
    ⟨decode_of_encode_eq rfl rfl rfl, hstop⟩, ⟨decode_of_encode_eq rfl rfl rfl, hstop⟩,
    ⟨decode_eq_undefined_iff op, hidle s.params.undefCycles⟩, undefinedOpcode_count⟩

/-- Settles O3: each word encodes its instruction. -/
theorem decodedWords : Obligations.DecodedWords := by
  unfold Obligations.DecodedWords
  and_intros <;> exact decode_of_encode_eq rfl rfl rfl

/-- Settles O4: `decode_encode` and `exec_base` at each spelling. -/
theorem aliasSpellings : Obligations.AliasSpellings := by
  intro s
  have spelling (i : Instr) (hwf : i.wf = true) : decode (encode i) = i.base ∧ exec i s = exec i.base s :=
    ⟨decode_encode hwf, exec_base i s⟩
  exact ⟨spelling .scf rfl, spelling .szf rfl, spelling .sdf rfl, spelling .ei rfl, spelling .rcf rfl, spelling .rzf rfl,
    spelling .rdf rfl, spelling .di rfl, spelling .incX rfl, spelling .incY rfl, spelling .notA rfl, spelling .notB rfl,
    spelling .notMX rfl, spelling .notMY rfl⟩

end Sys2Proof.Machine
end

section
/-! The branch instructions (41_branch.md R150 to R162): the whole next state of PSET, of each jump, of each call and of each return. -/

namespace Sys2Proof.Machine

open Sys2Proof.Safety

/-- A number decodes to the instruction whose opcode it is. -/
theorem decode_opc {i : Instr} {n : Nat} (henc : (encode i).toNat = n) (hwf : i.wf = true) (halias : i.isAlias = false) :
    decode (opc n) = i := by
  refine decode_of_encode_eq ?_ hwf halias
  rw [opc, ← henc, BitVec.ofNat_toNat, BitVec.setWidth_eq]

/-! ## Program addresses (10_state.md R23) -/

theorem bankPageStep_eq (bankPage : BitVec 5) (st : Byte) :
    (bankPage ++ st : BitVec 13) = pcAt (bankPage.toNat / 16) (bankPage.toNat % 16) st.toNat := by
  apply BitVec.eq_of_toNat_eq
  rw [append_toNat, pcAt, BitVec.toNat_ofNat]
  omega

theorem bankAddr_pageStep (bank : BitVec 1) (page : Nib) (st : Byte) :
    bankAddr bank (page ++ st) = pcAt bank.toNat page.toNat st.toNat := by
  apply BitVec.eq_of_toNat_eq
  rw [bankAddr_toNat, pageStep_toNat, pcAt, BitVec.toNat_ofNat]
  omega

theorem bankBit_toNat (pc : PcWord) : (pc.extractLsb' 12 1).toNat = pcBank pc := by
  have := pc.isLt
  simp only [pcBank, BitVec.extractLsb'_toNat, Nat.shiftRight_eq_div_pow]
  omega

theorem pageNib_toNat (pc : PcWord) : (pc.extractLsb' 8 4).toNat = pcPage pc := by
  simp only [pcPage, BitVec.extractLsb'_toNat, Nat.shiftRight_eq_div_pow]

theorem stepByte_toNat (pc : PcWord) : (pc.extractLsb' 0 8).toNat = pcStep pc := by
  simp only [pcStep, BitVec.extractLsb'_toNat, Nat.shiftRight_zero]

/-- The bank and the page of an address are read back from it. -/
theorem pcBank_pcAt {bank page st : Nat} (hbank : bank < 2) (hpage : page < 16) (hst : st < 256) :
    pcBank (pcAt bank page st) = bank := by
  rw [pcBank, pcAt, BitVec.toNat_ofNat]
  omega

@[inherit_doc pcBank_pcAt] theorem pcPage_pcAt {bank page st : Nat} (hpage : page < 16) (hst : st < 256) :
    pcPage (pcAt bank page st) = page := by
  rw [pcPage, pcAt, BitVec.toNat_ofNat]
  omega

/-- 41_branch.md R151: the bank and page of `NPC`. -/
theorem jumpTarget_eq (c : Cpu) (e : Byte) : jumpTarget c e = pcAt (pcBank c.npc) (pcPage c.npc) e.toNat := by
  have hfield : (c.npc.extractLsb' 8 5).toNat = c.npc.toNat / 256 % 32 := by
    simp only [BitVec.extractLsb'_toNat, Nat.shiftRight_eq_div_pow]
  have := c.npc.isLt
  rw [jumpTarget, bankPageStep_eq, hfield, pcBank, pcPage]
  congr 1 <;> omega

/-! ## PSET and the jumps -/

/-- Everything PSET does (41_branch.md R150). -/
theorem execPset_eq (p : BitVec 5) (s : State) :
    execPset p s =
      .next { s with
        cpu := { s.cpu with
          pc := nextPc s.cpu.pc, npc := pcAt (p.toNat / 16) (p.toNat % 16) (pcStep (nextPc s.cpu.pc)) }
        cost := 5 } := by
  simp only [execPset, succ_eq_nextPc, bankPageStep_eq, stepByte_toNat]

/-- After PSET, `NPC` is the pending bank and page over the step of `PC` (41_branch.md R150). -/
theorem npc_of_execPset {p : BitVec 5} {s u : State} (h : exec (.pset p) s = .next u) :
    u.cpu.npc = pcAt (p.toNat / 16) (p.toNat % 16) (pcStep u.cpu.pc) := by
  cases (execPset_eq p s).symm.trans h
  rfl

/-- Everything a jump does (41_branch.md R151). -/
theorem jump_jumpTarget (e : Byte) (s : State) :
    jump (jumpTarget s.cpu e) 5 s =
      { s with cpu := { s.cpu with pc := pcAt (pcBank s.cpu.npc) (pcPage s.cpu.npc) e.toNat }, cost := 5 } := by
  rw [jumpTarget_eq, jump]

/-- Everything a conditional jump does, taken or not (41_branch.md R152). -/
theorem condJump_eq (cond : Bool) (e : Byte) (s : State) :
    condJump cond e s =
      { s with
        cpu := { s.cpu with
          pc := if cond = true then pcAt (pcBank s.cpu.npc) (pcPage s.cpu.npc) e.toNat else nextPc s.cpu.pc }
        cost := 5 } := by
  cases cond
  case false => exact advance_eq 5 s
  case true => exact jump_jumpTarget e s

/-- Settles O23: the words encode their instructions, and each jump takes `jumpTarget_eq` or the next address. -/
theorem jumpResults : Obligations.JumpResults := by
  unfold Obligations.JumpResults
  intro p e s goTo target next
  have hnot (b : Bool) : (.next (condJump (!b) e s) : Result) = .next (goTo (if b = false then target e.toNat else next)) := by
    rw [condJump_eq]
    simp only [Bool.not_eq_true', goTo, target, next]
  exact ⟨⟨decode_opc (fmtP5_toNat 0x72#7 p) rfl rfl, execPset_eq p s⟩,
    ⟨decode_opc (fmtS8_toNat 0x0#4 e) rfl rfl, congrArg _ (jump_jumpTarget e s)⟩,
    ⟨decode_opc (fmtS8_toNat 0x2#4 e) rfl rfl, congrArg _ (condJump_eq s.cpu.fC e s)⟩,
    ⟨decode_opc (fmtS8_toNat 0x3#4 e) rfl rfl, hnot s.cpu.fC⟩,
    ⟨decode_opc (fmtS8_toNat 0x6#4 e) rfl rfl, congrArg _ (condJump_eq s.cpu.fZ e s)⟩,
    ⟨decode_opc (fmtS8_toNat 0x7#4 e) rfl rfl, hnot s.cpu.fZ⟩,
    ⟨decode_opc rfl rfl rfl, congrArg _ ((jump_jumpTarget _ s).trans (by rw [byteOf_toNat]))⟩⟩

/-! ## Calls and returns -/

/-- Everything a call does (41_branch.md R158). -/
theorem callTo_eq (page : Nib) (e : Byte) (s : State) :
    callTo page e s =
      { s with
        cpu := { s.cpu with sp := spDown s.cpu.sp 3, pc := pcAt (pcBank s.cpu.pc) page.toNat e.toNat }
        bus := pushedReturn s.cpu.sp (nextPc s.cpu.pc) s
        cost := 7 } := by
  rw [callTo, bankAddr_pageStep, bankBit_toNat, succ_eq_nextPc, pushReturn_eq, jump]

/-- Settles O24: both are `callTo`, with the page of `NPC` or page 0. -/
theorem callResults : Obligations.CallResults := by
  unfold Obligations.CallResults
  intro e s called
  have hcall (page : Nib) : (.next (callTo page e s) : Result) = .next (called page.toNat) := congrArg _ (callTo_eq page e s)
  refine ⟨⟨decode_opc (fmtS8_toNat 0x4#4 e) rfl rfl, ?_⟩, decode_opc (fmtS8_toNat 0x5#4 e) rfl rfl, hcall 0x0#4⟩
  rw [← pageNib_toNat]
  exact hcall _

/-- Everything the two stores of a byte at X do (41_branch.md R162). -/
theorem storeByteX_eq (e : Byte) (s : State) :
    storeByteX e s = { s with cpu := bumpX 2 s.cpu, bus := storedByte e s } := by
  simp only [storeByteX, incX, memWrite, setX_bump, bumpX_bumpX, hiNib_eq, loNib_eq, storedByte]

/-- Settles O25: each pops by `popReturn_eq`, then skips or stores. -/
theorem returnResults : Obligations.ReturnResults := by
  unfold Obligations.ReturnResults
  intro e s back
  have hret : popReturn s = { s with cpu := back } := popReturn_eq s
  refine ⟨⟨decode_opc rfl rfl rfl, ?_⟩, ⟨decode_opc rfl rfl rfl, ?_⟩, decode_opc (fmtS8_toNat 0x1#4 e) rfl rfl, ?_⟩
  · show (.next { popReturn s with cost := 7 } : Result) = _
    rw [hret]
  · show (.next (advance 12 (popReturn s)) : Result) = _
    rw [hret, advance_eq]
    rfl
  · show (.next { storeByteX e (popReturn s) with cost := 12 } : Result) = _
    rw [hret, storeByteX_eq]
    rfl

end Sys2Proof.Machine
end

section
/-! A return takes back what a call or an interrupt entry pushed (41_branch.md R163): the three stack cells read back. -/

namespace Sys2Proof.Machine

open Sys2Proof.Safety

theorem spUp_spDown (sp : Byte) {j k : Nat} (hj : j ≤ 256) (hk : k ≤ j) : spUp (spDown sp j) k = spDown sp (j - k) := by
  apply BitVec.eq_of_toNat_eq
  simp only [spUp, spDown, BitVec.toNat_ofNat]
  omega

theorem spDown_zero (sp : Byte) : spDown sp 0 = sp := by
  apply BitVec.eq_of_toNat_eq
  simp only [spDown, BitVec.toNat_ofNat]
  omega

/-- Stack cells at different distances are different. -/
theorem spDown_ne (sp : Byte) {j k : Nat} (hj : j < 256) (hk : k < 256) (hjk : j ≠ k) :
    (spDown sp j).toNat ≠ (spDown sp k).toNat := by
  simp only [spDown, BitVec.toNat_ofNat]
  omega

/-- A stack cell reads back what is written to it. -/
theorem peek_busWrite_stackAddr {b : Bus} (hb : MemOk b) (p : Params) (sp : Byte) (v : Nib) :
    peek p (stackAddr sp) (busWrite p (stackAddr sp) v b) = v := by
  rw [peek_stackAddr, busWrite_stackAddr]
  exact Memory.read_write_same v hb.1

theorem peek_busWrite_stackAddr_other {sp sp' : Byte} (h : sp'.toNat ≠ sp.toNat) (p : Params) (v : Nib) (b : Bus) :
    peek p (stackAddr sp') (busWrite p (stackAddr sp) v b) = peek p (stackAddr sp') b := by
  rw [peek_stackAddr, peek_stackAddr, busWrite_stackAddr]
  exact Memory.read_write_other v b.ram h

/-- The three cells that hold a pushed return address, the least significant nibble lowest. -/
theorem peek_pushReturn {s : State} (hs : MemOk s.bus) (r : PcWord) {k : Nat} (hk : k < 3) :
    peek s.params (stackAddr (spUp (spDown s.cpu.sp 3) k)) (pushReturn r s).bus = BitVec.ofNat 4 (r.toNat / 16 ^ k) := by
  have h32 := spDown_ne s.cpu.sp (j := 2) (k := 3) (by omega) (by omega) (by omega)
  have h31 := spDown_ne s.cpu.sp (j := 1) (k := 3) (by omega) (by omega) (by omega)
  have h21 := spDown_ne s.cpu.sp (j := 1) (k := 2) (by omega) (by omega) (by omega)
  rw [spUp_spDown _ (by omega) (by omega), pushReturn_eq]
  simp only [pushedReturn, ← stackAddr_eq]
  match k, hk with
  | 0, _ => exact (peek_busWrite_stackAddr (memOk_busWrite _ _ _ (memOk_busWrite _ _ _ hs)) _ _ _).trans (by simp)
  | 1, _ =>
    rw [peek_busWrite_stackAddr_other h32]
    exact peek_busWrite_stackAddr (memOk_busWrite _ _ _ hs) _ _ _
  | 2, _ =>
    rw [peek_busWrite_stackAddr_other h31, peek_busWrite_stackAddr_other h21]
    exact peek_busWrite_stackAddr hs _ _ _

/-- Settles O15: the three nibbles that `peek_pushReturn` reads make up the 12 bits pushed. -/
theorem callReturn : Obligations.CallReturn := by
  unfold Obligations.CallReturn
  intro s u r hs hparams hsp hcells
  have hstack (k : Nat) (hk : k < 3) : stackNum k u = r.toNat / 16 ^ k % 16 := by
    have hcell := hcells k hk
    rw [hsp, peek_pushReturn hs r hk, ← hsp] at hcell
    rw [stackNum, ← stackAddr_eq, hcell, BitVec.toNat_ofNat]
  refine ⟨_, rfl, ?_, ?_⟩
  · show (popReturn u).cpu.sp = _
    rw [popReturn_eq, hsp]
    exact (spUp_spDown _ (by omega) le_rfl).trans (spDown_zero _)
  · show (popReturn u).cpu.pc = _
    rw [popReturn_eq]
    show returnPc u = _
    rw [returnPc, hstack 0 (by omega), hstack 1 (by omega), hstack 2 (by omega)]
    congr 1
    omega

end Sys2Proof.Machine
end

section
/-! `NPC` after a step (10_state.md R25): a PSET's page stays pending for exactly the next instruction (41_branch.md R150). -/

namespace Sys2Proof.Machine

open Sys2Proof.Safety

/-- The PSET row has no value outside 0xE40 to 0xE5F (30_encoding.md R133). -/
theorem isPset_of_decode {op : Opcode} {p : BitVec 5} (h : decode op = .pset p) : isPset op = true := by
  obtain ⟨-, -, -, henc⟩ := decode_hasOpcode op
  rw [h] at henc
  have hop : op.toNat = 0x72 * 32 + p.toNat := henc ▸ fmtP5_toNat 0x72#7 p
  exact decide_eq_true (by omega)

/-- The end of a step leaves `PC` and `NPC` alone, or enters an interrupt and keeps them together (60_exceptions.md R306). -/
theorem finishStep_npc (pset : Bool) (s : State) :
    ((finishStep pset s).diag.interruptCount = s.diag.interruptCount ∧ (finishStep pset s).cpu.pc = s.cpu.pc ∧
        (finishStep pset s).cpu.npc = s.cpu.npc) ∨
      ((finishStep pset s).diag.interruptCount = s.diag.interruptCount + 1 ∧
        (finishStep pset s).cpu.npc = (finishStep pset s).cpu.pc) := by
  simp only [finishStep, advanceClock_diag, advanceClock_cpu]
  rcases interruptCheck_cases pset s with ⟨-, e⟩ | ⟨-, e, -⟩ | ⟨-, -, -, src, -, e⟩ <;> rw [e]
  · exact .inl ⟨rfl, rfl, rfl⟩
  · exact .inl ⟨rfl, rfl, rfl⟩
  · exact .inr ⟨rfl, rfl⟩

/-- Where a step that runs an instruction leaves `PC` and `NPC` (60_exceptions.md R300, R306). -/
theorem step_npc {s t : State} (hr : s.cpu.resetLatch = false) (hh : s.cpu.halt = false) (h : step s = .next t) :
    ∃ u, exec (decode (fetch s)) s = .next u ∧
      ((t.diag.interruptCount = s.diag.interruptCount ∧ t.cpu.pc = u.cpu.pc ∧
          t.cpu.npc = if isPset (fetch s) then u.cpu.npc else u.cpu.pc) ∨
        (t.diag.interruptCount = s.diag.interruptCount + 1 ∧ t.cpu.npc = t.cpu.pc)) := by
  obtain ⟨u, hu⟩ := exec_next (decode (fetch s)) s
  rw [step_of_exec hr hh hu] at h
  cases h
  refine ⟨u, hu, ?_⟩
  have hend := finishStep_npc (isPset (fetch s)) (epilogue s.cpu.fI (isPset (fetch s)) u)
  rwa [epilogue_diag, (exec_touches _ s u hu).diag, epilogue_cpu] at hend

/-- A jump goes to the bank and page that `NPC` holds (41_branch.md R151). -/
theorem exec_jp_of_npc {t : State} {bank page st : Nat} (hbank : bank < 2) (hpage : page < 16) (hst : st < 256)
    (h : t.cpu.npc = pcAt bank page st) (e : Byte) :
    exec (.jp e) t = .next { t with cpu := { t.cpu with pc := pcAt bank page e.toNat }, cost := 5 } := by
  show (.next (jump (jumpTarget t.cpu e) 5 t) : Result) = _
  rw [jump_jumpTarget, h, pcBank_pcAt hbank hpage hst, pcPage_pcAt hpage hst]

/-- Settles O10: of the two ends of a step in `step_npc`, an entry keeps `NPC` with `PC`, and without one only a PSET has set
`NPC` apart. -/
theorem pendingPage : Obligations.PendingPage := by
  unfold Obligations.PendingPage
  intro s t hr hh hstep
  obtain ⟨u, hu, hend⟩ := step_npc hr hh hstep
  refine ⟨fun hnot => ?_, fun hcount => ?_, fun p hp hcount => ?_⟩
  · have hpset : isPset (fetch s) = false := Bool.eq_false_iff.mpr fun h => hnot _ (decode_of_isPset h)
    rw [hpset] at hend
    rcases hend with ⟨-, hpc, hnpc⟩ | ⟨-, hentered⟩
    · exact hnpc.trans hpc.symm
    · exact hentered
  · rcases hend with ⟨hsame, -⟩ | ⟨-, hentered⟩
    · exact absurd hsame hcount
    · exact hentered
  · rcases hend with ⟨-, hpc, hnpc⟩ | ⟨hmore, -⟩
    · rw [hp] at hu
      rw [isPset_of_decode hp, if_pos rfl, npc_of_execPset hu, ← hpc] at hnpc
      exact ⟨hnpc, exec_jp_of_npc (by omega) (Nat.mod_lt _ (by omega)) (Nat.mod_lt _ (by omega)) hnpc⟩
    · omega

end Sys2Proof.Machine
end

section
/-! The halted step and the ways out of the halt (42_system.md R174, R175), with the source that an interrupt check enters
(60_exceptions.md R304, R307, R308). -/

namespace Sys2Proof.Machine

open Sys2Proof.Safety

/-! ## The source that a check enters -/

/-- Two words have a bit in common exactly when their conjunction is not 0. -/
theorem and_ne_zero_iff {w : Nat} (x y : BitVec w) :
    (x &&& y != 0#w) = true ↔ ∃ i, i < w ∧ x.getLsbD i = true ∧ y.getLsbD i = true := by
  rw [bne_iff_ne]
  constructor
  · intro hne
    by_contra hnone
    refine hne (BitVec.eq_of_getLsbD_eq fun i hi => ?_)
    rw [BitVec.getLsbD_and, BitVec.getLsbD_zero, Bool.and_eq_false_imp]
    exact fun hx => Bool.eq_false_iff.mpr fun hy => hnone ⟨i, hi, hx, hy⟩
  · rintro ⟨i, -, hx, hy⟩ hzero
    have hbit : (x &&& y).getLsbD i = true := by rw [BitVec.getLsbD_and, hx, hy]; rfl
    rw [hzero, BitVec.getLsbD_zero] at hbit
    exact Bool.false_ne_true hbit

/-- `Pending(src)` bit by bit (60_exceptions.md R307). -/
theorem pending_iff (io : Io) (src : IntSource) : pending io src = true ↔ isPending io src := by
  cases src
  case tm => exact and_ne_zero_iff io.ift io.eit
  case sw => exact and_ne_zero_iff io.ifsw io.eisw
  case pt => exact Bool.and_eq_true_iff
  case sio => exact Bool.and_eq_true_iff
  case k0 | k1 => exact Iff.rfl

theorem mem_intPriority (src : IntSource) : src ∈ intPriority := by cases src <;> decide

/-- The check looks at the sources in the order of their priority numbers (60_exceptions.md R304). -/
theorem intPriority_sorted : intPriority.Pairwise fun src other => priority src < priority other := by decide

/-- A check finds the pending source of the highest priority: those it looks at before it are not pending
(60_exceptions.md R308). -/
theorem pendingSource_of_isTaken {io : Io} {src : IntSource} (h : isTaken io src) : pendingSource io = some src := by
  obtain ⟨hpending, hfirst⟩ := h
  obtain ⟨before, after, hsplit⟩ := List.append_of_mem (mem_intPriority src)
  refine List.find?_eq_some_iff_append.mpr ⟨(pending_iff io src).mpr hpending, before, after, hsplit, fun other hother => ?_⟩
  obtain ⟨-, -, hsorted⟩ := List.pairwise_append.mp (hsplit ▸ intPriority_sorted)
  have hlt : priority other < priority src := hsorted other hother src List.mem_cons_self
  rw [Bool.not_eq_true', Bool.eq_false_iff, ne_eq, pending_iff]
  exact fun hp => absurd (hfirst other hp) (by omega)

/-- A check enters the taken source when nothing holds it back (60_exceptions.md R306). -/
theorem interruptCheck_of_isTaken {pset : Bool} {s : State} {src : IntSource} (hdelay : s.cpu.intDelay = false)
    (hI : s.cpu.fI = true) (hmask : (s.params.psetMasksInterrupt && pset) = false) (h : isTaken s.bus.io src) :
    interruptCheck pset s = enterInterrupt src s := by
  simp only [interruptCheck, hdelay, hI, hmask, pendingSource_of_isTaken h, Bool.not_true, Bool.false_eq_true, if_false]

/-- 60_exceptions.md R304, R306: page 1 of the current bank, at the step of the vector. -/
theorem handlerAddr_eq (pc : PcWord) (src : IntSource) : handlerAddr pc src = pcAt (pcBank pc) 1 (vectorNum src) := by
  have hvector : src.vector.toNat = vectorNum src := by cases src <;> rfl
  rw [handlerAddr, bankAddr_pageStep, bankBit_toNat, hvector]
  rfl

/-! ## The halted step -/

theorem step_of_resetLatch {s : State} (h : s.cpu.resetLatch = true) :
    step s = .next { s with cost := s.params.haltStepCycles } := by
  rw [step, cycle, if_pos h]

theorem step_of_halt {s : State} (hr : s.cpu.resetLatch = false) (hh : s.cpu.halt = true) : step s = .next (haltedStep s) := by
  rw [step, cycle, if_neg (Bool.eq_false_iff.mp hr), if_pos hh]

/-- The state that the interrupt check of a halted step looks at: the cost and the halted cycles are counted already
(60_exceptions.md R300). -/
def idled (s : State) : State :=
  { s with
    cost := s.params.haltStepCycles
    diag := { s.diag with haltedCycles := s.diag.haltedCycles + s.params.haltStepCycles } }

theorem haltedStep_eq (s : State) : haltedStep s = advanceClock (interruptCheck false (idled s)) := rfl

/-- An interrupt check counts no halted cycles. -/
@[simp] theorem interruptCheck_haltedCycles (pset : Bool) (s : State) :
    (interruptCheck pset s).diag.haltedCycles = s.diag.haltedCycles := by
  rcases interruptCheck_cases pset s with ⟨-, e⟩ | ⟨-, e, -⟩ | ⟨-, -, -, src, -, e⟩ <;> rw [e]
  rfl

theorem haltedStep_haltedCycles (s : State) :
    (haltedStep s).diag.haltedCycles = s.diag.haltedCycles + s.params.haltStepCycles :=
  interruptCheck_haltedCycles false (idled s)

/-- The two ways a halted step goes: nothing but the delay, the cost, the halted cycles and the clock network changes, or it
enters an interrupt (42_system.md R174). -/
theorem haltedStep_cases (s : State) :
    haltedStep s =
        { s with
          cpu := { s.cpu with intDelay := false }
          bus := clockAdvance s.params s.params.haltStepCycles s.bus
          diag := { s.diag with haltedCycles := s.diag.haltedCycles + s.params.haltStepCycles }
          cost := s.params.haltStepCycles } ∨
      (haltedStep s).diag.interruptCount = s.diag.interruptCount + 1 := by
  rw [haltedStep_eq]
  rcases interruptCheck_cases false (idled s) with ⟨-, e⟩ | ⟨hdelay, e, -⟩ | ⟨-, -, -, src, -, e⟩ <;> rw [e]
  · exact .inl rfl
  · have hcpu : s.cpu = { s.cpu with intDelay := false } := by rw [← show s.cpu.intDelay = false from hdelay]
    exact .inl (by rw [← hcpu]; rfl)
  · exact .inr rfl

/-- The core after a halted step that meets a pending enabled interrupt: that of the entry (60_exceptions.md R306). -/
theorem haltedStep_cpu_of_isTaken {s : State} {src : IntSource} (hdelay : s.cpu.intDelay = false) (hI : s.cpu.fI = true)
    (h : isTaken s.bus.io src) : (haltedStep s).cpu = (enterInterrupt src s).cpu := by
  rw [haltedStep_eq, interruptCheck_of_isTaken (s := idled s) hdelay hI (Bool.and_false _) h]
  rfl

/-- Settles O11: with the reset latch set by definition; else of the two ways of `haltedStep_cases` the first is the one that
counts no entry. (`Machine.haltedStep` is the model's own function.) -/
theorem Halt.haltedStep : Obligations.HaltedStep := by
  unfold Obligations.HaltedStep
  intro s t hstep
  refine ⟨fun hr => ?_, fun hr hh => ?_⟩
  · rw [step_of_resetLatch hr] at hstep
    cases hstep
    rfl
  · rw [step_of_halt hr hh] at hstep
    cases hstep
    refine ⟨rfl, haltedStep_haltedCycles s, fun hcount => ?_⟩
    rcases haltedStep_cases s with hidle | hentered
    · rw [hidle]
      exact ⟨rfl, rfl, clockAdvance_ram _ _ _, clockAdvance_vram _ _ _⟩
    · omega

/-- Settles O12: without an entry `haltedStep_cases` keeps `halt`, and the entry of a taken source clears it. -/
theorem leavingHalt : Obligations.LeavingHalt := by
  unfold Obligations.LeavingHalt
  intro s hhalt
  refine ⟨fun t hstep hleft => ?_, fun src hr hdelay hI htaken => ?_, rfl⟩
  · cases hr : s.cpu.resetLatch
    · rw [step_of_halt hr hhalt] at hstep
      cases hstep
      rcases haltedStep_cases s with hidle | hentered
      · rw [hidle] at hleft
        exact absurd hhalt (Bool.eq_false_iff.mp hleft)
      · exact hentered
    · rw [step_of_resetLatch hr] at hstep
      cases hstep
      exact absurd hhalt (Bool.eq_false_iff.mp hleft)
  · refine ⟨haltedStep s, step_of_halt hr hhalt, ?_⟩
    rw [haltedStep_cpu_of_isTaken hdelay hI htaken]
    exact ⟨rfl, rfl, handlerAddr_eq s.cpu.pc src⟩

end Sys2Proof.Machine
end

section
/-! The index instructions (43_index.md R180 to R191): the whole next state of each load, copy, count, addition and compare. -/

namespace Sys2Proof.Machine

open Sys2Proof.Safety

theorem fmtR2_selNum (o : BitVec 10) (r : Sel) : (fmtR2 o r).toNat = o.toNat * 4 + selNum r := by
  rw [fmtR2_toNat]
  cases r <;> rfl

/-! ## Loads, counts and copies -/

/-- 43_index.md R182. -/
theorem setX_eq (c : Cpu) (e : Byte) :
    c.setX e = { c with xh := BitVec.ofNat 4 (e.toNat / 16), xl := BitVec.ofNat 4 e.toNat } := by
  rw [Cpu.setX, hiNib_eq, loNib_eq]

/-- 43_index.md R183. -/
theorem setY_eq (c : Cpu) (e : Byte) :
    c.setY e = { c with yh := BitVec.ofNat 4 (e.toNat / 16), yl := BitVec.ofNat 4 e.toNat } := by
  rw [Cpu.setY, hiNib_eq, loNib_eq]

/-- 43_index.md R181. -/
theorem incX_eq (s : State) : incX s = { s with cpu := bumpX 1 s.cpu } := by rw [incX, setX_bump]

@[inherit_doc incX_eq] theorem incY_eq (s : State) : incY s = { s with cpu := bumpY 1 s.cpu } := by rw [incY, setY_bump]

/-- The transfer in `LDPX A,A` and `LDPY A,A` has no effect (43_index.md R180). -/
theorem moveOpnd_a_a (s : State) : moveOpnd .a .a s = s := rfl

/-- Everything a load of an index nibble from an operand does (43_index.md R186, R187). -/
theorem loadIx_eq (k : IxNib) (r : Sel) (s : State) :
    loadIx k r s =
      { s with cpu := nextCpu (s.cpu.setIx k (srcValue r s s.bus)), bus := srcBus r s s.bus, cost := 5 } := by
  rw [loadIx, opnd_eq, advance_eq]
  rfl

/-- Everything a copy of an index nibble to an operand does (43_index.md R188, R189). -/
theorem storeIx_eq (k : IxNib) (r : Sel) (s : State) :
    storeIx k r s =
      { s with
        cpu := nextCpu (dstCpu r (s.cpu.getIx k) s.cpu), bus := dstBus r (s.cpu.getIx k) s s.bus, cost := 5 } := by
  rw [storeIx, setOpnd_eq, advance_eq]

/-- Settles O27: `loadIx_eq` and `storeIx_eq` at each nibble; a load of X or Y splits the byte, a count is the transfer A to A with
`incX` or `incY` after it. -/
theorem indexLoadResults : Obligations.IndexLoadResults := by
  unfold Obligations.IndexLoadResults
  intro e r s hi lo v load copy
  have hload (k : IxNib) : (.next (loadIx k r s) : Result) = .next (load (s.cpu.setIx k v)) := congrArg _ (loadIx_eq k r s)
  have hcopy (k : IxNib) : (.next (storeIx k r s) : Result) = .next (copy (s.cpu.getIx k)) := congrArg _ (storeIx_eq k r s)
  refine ⟨⟨decode_opc (fmtS8_toNat 0xB#4 e) rfl rfl, ?ldX⟩, ⟨decode_opc (fmtS8_toNat 0x8#4 e) rfl rfl, ?ldY⟩, ?incX, ?incY,
    ⟨decode_opc (fmtR2_selNum 0x3A0#10 r) rfl rfl, hload .xp⟩, ⟨decode_opc (fmtR2_selNum 0x3A1#10 r) rfl rfl, hload .xh⟩,
    ⟨decode_opc (fmtR2_selNum 0x3A2#10 r) rfl rfl, hload .xl⟩, ⟨decode_opc (fmtR2_selNum 0x3A4#10 r) rfl rfl, hload .yp⟩,
    ⟨decode_opc (fmtR2_selNum 0x3A5#10 r) rfl rfl, hload .yh⟩, ⟨decode_opc (fmtR2_selNum 0x3A6#10 r) rfl rfl, hload .yl⟩,
    ⟨decode_opc (fmtR2_selNum 0x3A8#10 r) rfl rfl, hcopy .xp⟩, ⟨decode_opc (fmtR2_selNum 0x3A9#10 r) rfl rfl, hcopy .xh⟩,
    ⟨decode_opc (fmtR2_selNum 0x3AA#10 r) rfl rfl, hcopy .xl⟩, ⟨decode_opc (fmtR2_selNum 0x3AC#10 r) rfl rfl, hcopy .yp⟩,
    ⟨decode_opc (fmtR2_selNum 0x3AD#10 r) rfl rfl, hcopy .yh⟩, ⟨decode_opc (fmtR2_selNum 0x3AE#10 r) rfl rfl, hcopy .yl⟩⟩
  case ldX =>
    show (.next (advance 5 { s with cpu := s.cpu.setX e }) : Result) = _
    rw [setX_eq, advance_eq]
  case ldY =>
    show (.next (advance 5 { s with cpu := s.cpu.setY e }) : Result) = _
    rw [setY_eq, advance_eq]
  case incX =>
    show (.next (advance 5 (incX (moveOpnd .a .a s))) : Result) = _
    rw [moveOpnd_a_a, incX_eq, advance_eq]
  case incY =>
    show (.next (advance 5 (incY (moveOpnd .a .a s))) : Result) = _
    rw [moveOpnd_a_a, incY_eq, advance_eq]

/-! ## ADC and CP -/

/-- Everything writing C and Z and advancing does (47_arith.md R253). -/
theorem advance_setCZ (n : Nat) (x : Nib × Bool) (s : State) :
    advance n (setCZ x s) = flagsDone x.2 (decide (x.1 = 0#4)) n s.bus s := advance_eq n _

/-- 47_arith.md R250 with `dec = 0`. -/
theorem add4_binary (a b : Nib) (cin : Bool) :
    add4 a b cin false =
      (BitVec.ofNat 4 (a.toNat + b.toNat + cin.toNat), decide (16 ≤ a.toNat + b.toNat + cin.toNat)) := rfl

theorem ofNat4_eq_zero_iff (t : Nat) : BitVec.ofNat 4 t = 0#4 ↔ t % 16 = 0 := by
  rw [← BitVec.toNat_inj, BitVec.toNat_ofNat]
  rfl

/-- A comparison borrows when its first value is the smaller one (47_arith.md R251). -/
theorem sub4_borrow (a b : Nib) : (sub4 a b false false).2 = decide (a.toNat < b.toNat) := by
  rw [sub4_eq, diffBorrow, decide_eq_decide, Bool.toNat_false]
  omega

/-- A comparison gives 0 when its values are equal (47_arith.md R251). -/
theorem sub4_eq_zero_iff (a b : Nib) : (sub4 a b false false).1 = 0#4 ↔ a = b := by
  have ha := a.isLt
  have hb := b.isLt
  rw [sub4_eq, ofNat4_eq_zero_iff, ← BitVec.toNat_inj]
  simp only [diffDigit, Bool.toNat_false, Bool.false_eq_true, false_and, if_false]
  omega

@[simp] theorem setIx_pc (c : Cpu) (k : IxNib) (v : Nib) : (c.setIx k v).pc = c.pc := by cases k <;> rfl

/-- Everything an addition to an index nibble with the exact sum `t` does: the nibble `k` alone takes the sum, whatever D holds
(43_index.md R190). -/
theorem addIx_eq {k : IxNib} {i : Nib} {s : State} {t : Nat} (ht : (s.cpu.getIx k).toNat + i.toNat + s.cpu.fC.toNat = t) :
    addIx k i s =
      { s with
        cpu := { s.cpu.setIx k (BitVec.ofNat 4 t) with
          pc := nextPc s.cpu.pc, fC := decide (16 ≤ t), fZ := decide (t % 16 = 0) }
        cost := 7 } := by
  simp only [addIx, add4_binary, ht, advance_setCZ, ofNat4_eq_zero_iff, flagsDone, setIx, setIx_pc]

/-- Everything a comparison of an index nibble does (43_index.md R191). -/
theorem cmpIx_eq (k : IxNib) (i : Nib) (s : State) :
    cmpIx k i s =
      flagsDone (decide ((s.cpu.getIx k).toNat < i.toNat)) (decide (s.cpu.getIx k = i)) 7 s.bus s := by
  simp only [cmpIx, advance_setCZ, sub4_borrow, sub4_eq_zero_iff]

/-- Settles O28: `addIx_eq` and `cmpIx_eq` at each nibble. -/
theorem indexArithResults : Obligations.IndexArithResults := by
  unfold Obligations.IndexArithResults
  intro i s total added sum compared
  have hadd (k : IxNib) :
      (.next (addIx k i s) : Result) = .next (added (s.cpu.setIx k (sum (s.cpu.getIx k))) (s.cpu.getIx k)) :=
    congrArg _ (addIx_eq rfl)
  have hcmp (k : IxNib) : (.next (cmpIx k i s) : Result) = .next (compared (s.cpu.getIx k)) := congrArg _ (cmpIx_eq k i s)
  exact ⟨⟨decode_opc (fmtI4_toNat 0xA0#8 i) rfl rfl, hadd .xh⟩, ⟨decode_opc (fmtI4_toNat 0xA1#8 i) rfl rfl, hadd .xl⟩,
    ⟨decode_opc (fmtI4_toNat 0xA2#8 i) rfl rfl, hadd .yh⟩, ⟨decode_opc (fmtI4_toNat 0xA3#8 i) rfl rfl, hadd .yl⟩,
    ⟨decode_opc (fmtI4_toNat 0xA4#8 i) rfl rfl, hcmp .xh⟩, ⟨decode_opc (fmtI4_toNat 0xA5#8 i) rfl rfl, hcmp .xl⟩,
    ⟨decode_opc (fmtI4_toNat 0xA6#8 i) rfl rfl, hcmp .yh⟩, ⟨decode_opc (fmtI4_toNat 0xA7#8 i) rfl rfl, hcmp .yl⟩⟩

end Sys2Proof.Machine
end

section
/-! The data transfers (44_transfer.md R200 to R210): the whole next state of each load, each store and each transfer that counts an
index register up. -/

namespace Sys2Proof.Machine

open Sys2Proof.Safety

theorem bits_toNat_eq_selNum (r : Sel) : r.bits.toNat = selNum r := by cases r <;> rfl

theorem fmtRI_selNum (o : BitVec 6) (r : Sel) (i : Nib) :
    (fmtRI o r i).toNat = o.toNat * 64 + 16 * selNum r + i.toNat := by
  rw [fmtRI_toNat, bits_toNat_eq_selNum]
  omega

theorem fmtRQ_selNum (o : BitVec 8) (r q : Sel) :
    (fmtRQ o r q).toNat = o.toNat * 16 + 4 * selNum r + selNum q := by
  rw [fmtRQ_toNat, bits_toNat_eq_selNum, bits_toNat_eq_selNum]
  omega

/-! ## Loads and stores -/

/-- Everything a transfer between operands does: the source is read, and acknowledged, before the destination is written
(44_transfer.md R201). -/
theorem moveOpnd_eq (r q : Sel) (s : State) :
    moveOpnd r q s =
      { s with
        cpu := dstCpu r (srcValue q s s.bus) s.cpu
        bus := dstBus r (srcValue q s s.bus) s (srcBus q s s.bus) } := by
  rw [moveOpnd, opnd_eq, setOpnd_eq]
  rfl

/-- Reading the operand `Mn` reads a RAM cell and changes nothing (30_encoding.md R132). -/
theorem memRead_nibAddr (n : Nib) (s : State) : memRead (nibAddr n) s = (Memory.read s.bus.ram n.toNat, s) := by
  rw [memRead, peek_nibAddr, ack_nibAddr]

/-- Writing the operand `Mn` writes a RAM cell alone (30_encoding.md R132). -/
theorem memWrite_nibAddr (n v : Nib) (s : State) :
    memWrite (nibAddr n) v s = { s with bus := { s.bus with ram := Memory.write s.bus.ram n.toNat v } } := by
  rw [memWrite, busWrite_nibAddr]

/-- Settles O29: each writes an operand or the cell Mn, by the rules above, and advances. -/
theorem loadResults : Obligations.LoadResults := by
  unfold Obligations.LoadResults
  intro r q i s moved cell stored
  have hstore (v : Nib) : (.next (advance 5 (memWrite (nibAddr i) v s)) : Result) = .next (stored v) := by
    rw [memWrite_nibAddr, advance_eq]
  refine ⟨⟨decode_opc (fmtRI_selNum 0x38#6 r i) rfl rfl, ?ldRI⟩, ⟨decode_opc (fmtRQ_selNum 0xEC#8 r q) rfl rfl, ?ldRQ⟩,
    ⟨decode_opc (fmtI4_toNat 0xFA#8 i) rfl rfl, ?ldAM⟩, ⟨decode_opc (fmtI4_toNat 0xFB#8 i) rfl rfl, ?ldBM⟩,
    ⟨decode_opc (fmtI4_toNat 0xF8#8 i) rfl rfl, hstore s.cpu.a⟩, ⟨decode_opc (fmtI4_toNat 0xF9#8 i) rfl rfl, hstore s.cpu.b⟩⟩
  case ldRI =>
    show (.next (advance 5 (setOpnd r i s)) : Result) = _
    rw [setOpnd_eq, advance_eq]
  case ldRQ =>
    show (.next (advance 5 (moveOpnd r q s)) : Result) = _
    rw [moveOpnd_eq, advance_eq]
  case ldAM =>
    show (.next (advance 5 (setOpnd .a (memRead (nibAddr i) s).1 (memRead (nibAddr i) s).2)) : Result) = _
    rw [memRead_nibAddr, setOpnd_eq, advance_eq]
    rfl
  case ldBM =>
    show (.next (advance 5 (setOpnd .b (memRead (nibAddr i) s).1 (memRead (nibAddr i) s).2)) : Result) = _
    rw [memRead_nibAddr, setOpnd_eq, advance_eq]
    rfl

/-! ## Transfers that count an index register up -/

/-- Everything counting an index register up and advancing does: the page is kept (43_index.md R181). -/
theorem advance_incX (n : Nat) (s : State) :
    advance n (incX s) = { s with cpu := nextCpu (bumpX 1 s.cpu), cost := n } := by
  rw [incX_eq, advance_eq]

@[inherit_doc advance_incX] theorem advance_incY (n : Nat) (s : State) :
    advance n (incY s) = { s with cpu := nextCpu (bumpY 1 s.cpu), cost := n } := by
  rw [incY_eq, advance_eq]

/-- Settles O30: the transfer is `setOpnd` or `moveOpnd` in the state before the count, so it is at the old index; LBPX is
`storeByteX_eq`. -/
theorem autoIncrementResults : Obligations.AutoIncrementResults := by
  unfold Obligations.AutoIncrementResults
  intro r q i e s v b
  refine ⟨⟨decode_opc (fmtI4_toNat 0xE6#8 i) rfl rfl, ?ldpxI⟩, ⟨decode_opc (fmtRQ_selNum 0xEE#8 r q) rfl rfl, ?ldpxRQ⟩,
    ⟨decode_opc (fmtI4_toNat 0xE7#8 i) rfl rfl, ?ldpyI⟩, ⟨decode_opc (fmtRQ_selNum 0xEF#8 r q) rfl rfl, ?ldpyRQ⟩,
    ⟨decode_opc (fmtS8_toNat 0x9#4 e) rfl rfl, ?lbpx⟩⟩
  case ldpxI =>
    show (.next (advance 5 (incX (setOpnd .mx i s))) : Result) = _
    rw [advance_incX, setOpnd_eq]
    rfl
  case ldpxRQ =>
    show (.next (advance 5 (incX (moveOpnd r q s))) : Result) = _
    rw [advance_incX, moveOpnd_eq]
  case ldpyI =>
    show (.next (advance 5 (incY (setOpnd .my i s))) : Result) = _
    rw [advance_incY, setOpnd_eq]
    rfl
  case ldpyRQ =>
    show (.next (advance 5 (incY (moveOpnd r q s))) : Result) = _
    rw [advance_incY, moveOpnd_eq]
  case lbpx =>
    show (.next (advance 5 (storeByteX e s)) : Result) = _
    rw [storeByteX_eq, advance_eq]

end Sys2Proof.Machine
end

section
/-! The flag instructions (45_flag.md R220 to R222): what SET F, RST F and their spellings leave in each flag, and the instructions that may
change `D`. -/

namespace Sys2Proof.Machine

open Sys2Proof.Safety

/-! ## The flag operations (10_state.md R27) -/

/-- SET F sets the flags whose bits are set in its operand, and keeps the others (45_flag.md R220). -/
theorem setFlagBits_eq (i : Nib) (s : State) :
    setFlagBits i s =
      { s with
        cpu := { s.cpu with
          pc := nextPc s.cpu.pc, fI := s.cpu.fI || i.getLsbD 3, fD := s.cpu.fD || i.getLsbD 2,
          fZ := s.cpu.fZ || i.getLsbD 1, fC := s.cpu.fC || i.getLsbD 0 }
        cost := 7 } := by
  obtain ⟨hC, hZ, hD, hI⟩ := flags_getLsbD s.cpu
  rw [setFlagBits, advance_eq, Cpu.setFlags]
  simp only [BitVec.getLsbD_or, hC, hZ, hD, hI]
  rfl

/-- RST F keeps the flags whose bits are set in its operand, and clears the others (45_flag.md R221). -/
theorem keepFlagBits_eq (i : Nib) (s : State) :
    keepFlagBits i s =
      { s with
        cpu := { s.cpu with
          pc := nextPc s.cpu.pc, fI := s.cpu.fI && i.getLsbD 3, fD := s.cpu.fD && i.getLsbD 2,
          fZ := s.cpu.fZ && i.getLsbD 1, fC := s.cpu.fC && i.getLsbD 0 }
        cost := 7 } := by
  obtain ⟨hC, hZ, hD, hI⟩ := flags_getLsbD s.cpu
  rw [keepFlagBits, advance_eq, Cpu.setFlags]
  simp only [BitVec.getLsbD_and, hC, hZ, hD, hI]
  rfl

/-- Settles O31: the two operations flag by flag, and each spelling is its base instruction at a fixed operand. -/
theorem flagResults : Obligations.FlagResults := by
  unfold Obligations.FlagResults
  intro i s m done
  have hset (n : Nib) : exec (.setF n) s = .next (done (m.fI || n.getLsbD 3) (m.fD || n.getLsbD 2) (m.fZ || n.getLsbD 1)
      (m.fC || n.getLsbD 0)) := congrArg _ (setFlagBits_eq n s)
  have hrst (n : Nib) : exec (.rstF n) s = .next (done (m.fI && n.getLsbD 3) (m.fD && n.getLsbD 2) (m.fZ && n.getLsbD 1)
      (m.fC && n.getLsbD 0)) := congrArg _ (keepFlagBits_eq n s)
  refine ⟨⟨decode_opc (fmtI4_toNat 0xF4#8 i) rfl rfl, hset i⟩, ⟨decode_opc (fmtI4_toNat 0xF5#8 i) rfl rfl, hrst i⟩,
    ?scf, ?rcf, ?szf, ?rzf, ?sdf, ?rdf, ?ei, ?di⟩
  case scf => simpa using (exec_base .scf s).trans (hset 0x1#4)
  case rcf => simpa using (exec_base .rcf s).trans (hrst 0xE#4)
  case szf => simpa using (exec_base .szf s).trans (hset 0x2#4)
  case rzf => simpa using (exec_base .rzf s).trans (hrst 0xD#4)
  case sdf => simpa using (exec_base .sdf s).trans (hset 0x4#4)
  case rdf => simpa using (exec_base .rdf s).trans (hrst 0xB#4)
  case ei => simpa using (exec_base .ei s).trans (hset 0x8#4)
  case di => simpa using (exec_base .di s).trans (hrst 0x7#4)

/-! ## What a step does to `D` (10_state.md R28, 45_flag.md R222) -/

theorem fD_not_mem_selReg (r : Sel) : Reg.fD ∉ selReg r := by cases r <;> decide

/-- Of all instructions only SET F, RST F, their spellings and POP F may write `D` (10_state.md R28). -/
theorem base_of_fD_mem_writes {p : Params} {i : Instr} (h : Reg.fD ∈ writes p i) :
    (∃ n, i.base = .setF n) ∨ (∃ n, i.base = .rstF n) ∨ i.base = .popF := by
  cases i
  case setF n => exact .inl ⟨n, rfl⟩
  case rstF n => exact .inr (.inl ⟨n, rfl⟩)
  case sdf => exact .inl ⟨0x4#4, rfl⟩
  case rdf => exact .inr (.inl ⟨0xB#4, rfl⟩)
  case popF => exact .inr (.inr rfl)
  case rlc | rrc => cases hz : p.rotWritesZ <;> simp [writes, fD_not_mem_selReg, hz] at h
  all_goals simp [writes, fD_not_mem_selReg] at h

/-- The decoder gives no spelling (30_encoding.md R136). -/
theorem base_decode (op : Opcode) : (decode op).base = decode op := by
  obtain ⟨-, -, halias, -⟩ := decode_hasOpcode op
  exact base_of_not_alias halias

/-- An instruction that changes `D` is one whose rule writes it (10_state.md R28). -/
theorem fD_mem_writes_of_exec {i : Instr} {s t : State} (h : exec i s = .next t) (hne : t.cpu.fD ≠ s.cpu.fD) :
    Reg.fD ∈ writes s.params i := by
  by_contra hnot
  have hsame : t.cpu.fD.toNat = s.cpu.fD.toNat := exec_writesOnly i s t h .fD hnot
  exact hne (Function.LeftInverse.injective Bool.ofNat_toNat hsame)

/-- Neither of the ways an interrupt check goes touches `D`, the entry included (45_flag.md R222). -/
@[simp] theorem interruptCheck_fD (pset : Bool) (s : State) : (interruptCheck pset s).cpu.fD = s.cpu.fD := by
  rcases interruptCheck_cases pset s with ⟨-, e⟩ | ⟨-, e, -⟩ | ⟨-, -, -, src, -, e⟩ <;> rw [e]
  rfl

/-- Settles O37: of the three ways a step goes only an executed instruction can change `D`, and then its rule writes `D`. -/
theorem decimalFlagWriters : Obligations.DecimalFlagWriters := by
  unfold Obligations.DecimalFlagWriters
  intro s t hstep hne
  rcases step_cases s t hstep with ⟨-, rfl⟩ | ⟨-, -, rfl⟩ | ⟨hr, hh, u, hu, rfl⟩
  · exact absurd rfl hne
  · exact absurd (interruptCheck_fD false (idled s)) hne
  · have hchanged : u.cpu.fD ≠ s.cpu.fD := by simpa [finishStep] using hne
    have hwrites := base_of_fD_mem_writes (fD_mem_writes_of_exec hu hchanged)
    rw [base_decode] at hwrites
    exact ⟨hr, hh, hwrites⟩

end Sys2Proof.Machine
end

section
/-! The stack instructions (46_stack.md R230 to R242): the whole next state of each count, load and read of `SP`, each push and each
pop. -/

namespace Sys2Proof.Machine

open Sys2Proof.Safety

/-! ## The stack pointer (10_state.md R22) -/

/-- The low nibble of `SP` as the digit `LD r,SPL` writes (46_stack.md R242). -/
theorem loNib_eq_mod (v : Byte) : loNib v = BitVec.ofNat 4 (v.toNat % 16) := by
  rw [← loNib_toNat, BitVec.ofNat_toNat, BitVec.setWidth_eq]

theorem byte_add_one_eq (v : Byte) : v + 1#8 = BitVec.ofNat 8 ((v.toNat + 1) % 256) := by
  apply BitVec.eq_of_toNat_eq
  simp only [BitVec.toNat_add, BitVec.toNat_ofNat]
  omega

theorem byte_sub_one_eq (v : Byte) : v - 1#8 = BitVec.ofNat 8 ((v.toNat + 255) % 256) := by
  apply BitVec.eq_of_toNat_eq
  simp only [BitVec.toNat_sub, BitVec.toNat_ofNat]
  omega

/-- Everything an instruction that sets `SP` does (46_stack.md R230). -/
theorem setSp_eq (v : Byte) (s : State) :
    setSp v s = { s with cpu := { s.cpu with pc := nextPc s.cpu.pc, sp := v }, cost := 5 } := advance_eq 5 _

/-- Settles O32: the counts and loads are `setSp_eq` at the new byte, the reads write a nibble of `SP` to an operand. -/
theorem stackPointerResults : Obligations.StackPointerResults := by
  unfold Obligations.StackPointerResults
  intro r s sp v setTo copy
  have hset {w : Byte} {n : Nat} (b : Bus) (hw : w = BitVec.ofNat 8 n) :
      (.next (setSp w { s with bus := b }) : Result) = .next (setTo n b) := by
    rw [setSp_eq, hw]
  have hcopy {w : Nib} {n : Nat} (hw : w = BitVec.ofNat 4 n) :
      (.next (advance 5 (setOpnd r w s)) : Result) = .next (copy n) := by
    rw [setOpnd_eq, advance_eq, hw]
  refine ⟨⟨decode_opc rfl rfl rfl, hset s.bus (byte_add_one_eq _)⟩, ⟨decode_opc rfl rfl rfl, hset s.bus (byte_sub_one_eq _)⟩,
    ⟨decode_opc (fmtR2_selNum 0x3F8#10 r) rfl rfl, ?ldSPH⟩, ⟨decode_opc (fmtR2_selNum 0x3FC#10 r) rfl rfl, ?ldSPL⟩,
    ⟨decode_opc (fmtR2_selNum 0x3F9#10 r) rfl rfl, hcopy (hiNib_eq _)⟩,
    ⟨decode_opc (fmtR2_selNum 0x3FD#10 r) rfl rfl, hcopy (loNib_eq_mod _)⟩⟩
  case ldSPH =>
    show (.next (setSp (byteOf (opnd r s).1 (loNib (opnd r s).2.cpu.sp)) (opnd r s).2) : Result) = _
    rw [opnd_eq]
    exact hset _ (byteOf_eq_ofNat rfl (loNib_toNat _))
  case ldSPL =>
    show (.next (setSp (byteOf (hiNib (opnd r s).2.cpu.sp) (opnd r s).1) (opnd r s).2) : Result) = _
    rw [opnd_eq]
    exact hset _ (byteOf_eq_ofNat (hiNib_toNat _) rfl)

/-! ## Pushes -/

/-- The flag register as a nibble (10_state.md R27). -/
theorem flags_eq (c : Cpu) : c.flags = BitVec.ofNat 4 (flagNum c) := by
  rw [Cpu.flags, flagNum]
  generalize c.fI = i, c.fD = d, c.fZ = z, c.fC = carry
  revert i d z carry
  decide

/-- Everything a push of `v` does (46_stack.md R232). -/
theorem advance_push (n : Nat) (v : Nib) (s : State) :
    advance n (push v s) =
      { s with
        cpu := { s.cpu with pc := nextPc s.cpu.pc, sp := spDown s.cpu.sp 1 }
        bus := { s.bus with ram := Memory.write s.bus.ram (spDown s.cpu.sp 1).toNat v }
        cost := n } := by
  rw [push_eq, advance_eq]
  rfl

/-- Settles O33: each is `advance_push`, of an operand read before it, of an index nibble or of the flags. -/
theorem pushResults : Obligations.PushResults := by
  unfold Obligations.PushResults
  intro r s pushed
  have hpush (v : Nib) (b : Bus) : (.next (advance 5 (push v { s with bus := b })) : Result) = .next (pushed v b) :=
    congrArg _ (advance_push 5 v _)
  have hindex (k : IxNib) : (.next (pushIx k s) : Result) = .next (pushed (s.cpu.getIx k) s.bus) := hpush _ s.bus
  refine ⟨⟨decode_opc (fmtR2_selNum 0x3F0#10 r) rfl rfl, ?push⟩, ⟨decode_opc rfl rfl rfl, hindex .xp⟩,
    ⟨decode_opc rfl rfl rfl, hindex .xh⟩, ⟨decode_opc rfl rfl rfl, hindex .xl⟩, ⟨decode_opc rfl rfl rfl, hindex .yp⟩,
    ⟨decode_opc rfl rfl rfl, hindex .yh⟩, ⟨decode_opc rfl rfl rfl, hindex .yl⟩, decode_opc rfl rfl rfl, ?pushF⟩
  case push =>
    show (.next (advance 5 (push (opnd r s).1 (opnd r s).2)) : Result) = _
    rw [opnd_eq]
    exact hpush _ _
  case pushF =>
    rw [← flags_eq]
    exact hpush _ s.bus

/-! ## Pops -/

/-- Writing an operand destination touches neither `PC` nor `SP`, so it commutes with setting them. -/
theorem nextCpu_dstCpu_sp (k : Sel) (v : Nib) (sp : Byte) (c : Cpu) :
    nextCpu (dstCpu k v { c with sp := sp }) = { dstCpu k v c with pc := nextPc c.pc, sp := sp } := by
  cases k <;> rfl

@[inherit_doc nextCpu_dstCpu_sp] theorem nextCpu_setIx_sp (k : IxNib) (v : Nib) (sp : Byte) (c : Cpu) :
    nextCpu (Cpu.setIx { c with sp := sp } k v) = { c.setIx k v with pc := nextPc c.pc, sp := sp } := by
  cases k <;> rfl

/-- A destination is written through the index registers, which a pop leaves alone (46_stack.md R233). -/
theorem dstBus_sp (k : Sel) (v : Nib) (sp : Byte) (s : State) (b : Bus) :
    dstBus k v { s with cpu := { s.cpu with sp := sp } } b = dstBus k v s b := by
  cases k <;> rfl

/-- Everything a pop of an index nibble does (46_stack.md R235). -/
theorem popIx_eq (k : IxNib) (s : State) :
    popIx k s =
      { s with
        cpu := { s.cpu.setIx k (Memory.read s.bus.ram s.cpu.sp.toNat) with
          pc := nextPc s.cpu.pc, sp := spUp s.cpu.sp 1 }
        cost := 5 } := by
  simp only [popIx, pop_eq, setIx, advance_eq, nextCpu_setIx_sp]

/-- Settles O34: `pop_eq` first, then the write of the destination, which keeps the `SP` counted up. -/
theorem popResults : Obligations.PopResults := by
  unfold Obligations.PopResults
  intro r s v popped
  have hindex (k : IxNib) : (.next (popIx k s) : Result) = .next (popped (s.cpu.setIx k v) s.bus) := congrArg _ (popIx_eq k s)
  refine ⟨⟨decode_opc (fmtR2_selNum 0x3F4#10 r) rfl rfl, ?pop⟩, ⟨decode_opc rfl rfl rfl, hindex .xp⟩,
    ⟨decode_opc rfl rfl rfl, hindex .xh⟩, ⟨decode_opc rfl rfl rfl, hindex .xl⟩, ⟨decode_opc rfl rfl rfl, hindex .yp⟩,
    ⟨decode_opc rfl rfl rfl, hindex .yh⟩, ⟨decode_opc rfl rfl rfl, hindex .yl⟩, decode_opc rfl rfl rfl, ?popF⟩
  case pop =>
    show (.next (advance 5 (setOpnd r (pop s).1 (pop s).2)) : Result) = _
    rw [pop_eq, setOpnd_eq, advance_eq, nextCpu_dstCpu_sp, dstBus_sp]
  case popF =>
    show (.next (advance 5 { (pop s).2 with cpu := (pop s).2.cpu.setFlags (pop s).1 }) : Result) = _
    rw [pop_eq, advance_eq]
    rfl

end Sys2Proof.Machine
end

section
/-! The arithmetic instructions (47_arith.md R250 to R280): the whole next state of each addition, subtraction, logical operation,
comparison, rotate, memory count and multi-digit form. -/

namespace Sys2Proof.Machine

open Sys2Proof.Safety

/-! ## Digits -/

theorem sumDigit_lt (dec : Bool) (t : Nat) : sumDigit dec t < 16 := by
  unfold sumDigit
  split <;> omega

theorem diffDigit_lt (dec : Bool) (t : Int) : diffDigit dec t < 16 := by
  unfold diffDigit
  split <;> omega

/-- A digit is 0 as a nibble exactly when it is 0 as a number (47_arith.md R253). -/
theorem digit_eq_zero_iff {t : Nat} (ht : t < 16) : BitVec.ofNat 4 t = 0#4 ↔ t = 0 := by
  rw [ofNat4_eq_zero_iff, Nat.mod_eq_of_lt ht]

/-! ## Writing a result -/

/-- Writing flags over a written operand is writing a result: an operand is neither `PC` nor a flag. -/
theorem flagsDone_setOpnd (r : Sel) (t : Nat) (c z : Bool) (n : Nat) (b : Bus) (s : State) :
    flagsDone c z n (setOpnd r (BitVec.ofNat 4 t) { s with bus := b }).bus (setOpnd r (BitVec.ofNat 4 t) { s with bus := b }) =
      aluDone r t c z n b s := by
  rw [setOpnd_eq, flagsDone, dstCpu_pc]
  rfl

/-- Everything writing a digit with C and Z does (47_arith.md R253). -/
theorem resultCZ_eq {t : Nat} (ht : t < 16) (r : Sel) (c : Bool) (n : Nat) (b : Bus) (s : State) :
    resultCZ r (BitVec.ofNat 4 t, c) n { s with bus := b } = aluDone r t c (decide (t = 0)) n b s := by
  rw [resultCZ, advance_setCZ, flagsDone_setOpnd]
  simp only [digit_eq_zero_iff ht]

/-- Writing Z alone leaves C as it was. -/
theorem resultZ_eq_resultCZ (r : Sel) (v : Nib) (n : Nat) (s : State) : resultZ r v n s = resultCZ r (v, s.cpu.fC) n s := by
  rw [resultZ, resultCZ, setOpnd_eq, setZ, setCZ, ← dstCpu_fC r v s.cpu]

/-- Everything writing the result of a logical operation does (47_arith.md R262 to R267). -/
theorem resultZ_eq (r : Sel) (v : Nib) (b : Bus) (s : State) : resultZ r v 7 { s with bus := b } = logicDone r v b s := by
  have h := resultCZ_eq v.isLt r s.cpu.fC 7 b s
  rw [BitVec.ofNat_toNat, BitVec.setWidth_eq] at h
  exact (resultZ_eq_resultCZ r v 7 _).trans h

/-! ## Additions and subtractions -/

/-- Everything writing a sum does, in the mode that D selects (47_arith.md R250, R253). -/
theorem resultCZ_add4 {x y : Nib} {cin : Bool} {t : Nat} (ht : x.toNat + y.toNat + cin.toNat = t) (r : Sel) (b : Bus) (s : State) :
    resultCZ r (add4 x y cin s.cpu.fD) 7 { s with bus := b } = addDone r t b s := by
  rw [add4_eq, ht, resultCZ_eq (sumDigit_lt _ _), addDone]

/-- Everything writing a difference does, in the mode that D selects (47_arith.md R251, R253). -/
theorem resultCZ_sub4 {x y : Nib} {bin : Bool} {t : Int} (ht : (x.toNat : Int) - y.toNat - bin.toNat = t) (r : Sel) (b : Bus)
    (s : State) : resultCZ r (sub4 x y bin s.cpu.fD) 7 { s with bus := b } = subDone r t b s := by
  rw [sub4_eq, ht, resultCZ_eq (diffDigit_lt _ _), subDone]

/-- An operation on an operand and an immediate writes its result over the memory after the read (47_arith.md R254). -/
theorem arithImm_eq (f : Nib → Nib → Nib × Bool) (r : Sel) (i : Nib) (s : State) :
    arithImm f r i s = resultCZ r (f (srcValue r s s.bus) i) 7 { s with bus := srcBus r s s.bus } := by
  rw [arithImm, opnd_eq]

/-- An operation on two operands writes its result over the memory after both reads, the destination's first (47_arith.md R254). -/
theorem arithOpnd_eq (f : Nib → Nib → Nib × Bool) (r q : Sel) (s : State) :
    arithOpnd f r q s =
      resultCZ r (f (srcValue r s s.bus) (srcValue q s (srcBus r s s.bus))) 7
        { s with bus := srcBus q s (srcBus r s s.bus) } := by
  rw [arithOpnd, opnds_eq]

/-- Settles O16: the operands are read, and `resultCZ_add4` writes their sum, with C for the forms with carry and without it for
the others. -/
theorem addResults : Obligations.AddResults := by
  unfold Obligations.AddResults
  intro r q i s b1 x y b2 c
  refine ⟨⟨decode_opc (fmtRI_selNum 0x30#6 r i) rfl rfl, congrArg Host.Outcome.next ?addRI⟩,
    ⟨decode_opc (fmtRQ_selNum 0xA8#8 r q) rfl rfl, congrArg Host.Outcome.next ?addRQ⟩,
    ⟨decode_opc (fmtRI_selNum 0x31#6 r i) rfl rfl, congrArg Host.Outcome.next ?adcRI⟩,
    ⟨decode_opc (fmtRQ_selNum 0xA9#8 r q) rfl rfl, congrArg Host.Outcome.next ?adcRQ⟩⟩
  case addRI => exact (arithImm_eq _ r i s).trans (resultCZ_add4 rfl r b1 s)
  case addRQ => exact (arithOpnd_eq _ r q s).trans (resultCZ_add4 rfl r b2 s)
  case adcRI => exact (arithImm_eq _ r i s).trans (resultCZ_add4 rfl r b1 s)
  case adcRQ => exact (arithOpnd_eq _ r q s).trans (resultCZ_add4 rfl r b2 s)

/-- Settles O17: the operands are read, and `resultCZ_sub4` writes their difference. -/
theorem subResults : Obligations.SubResults := by
  unfold Obligations.SubResults
  intro r q i s b1 x y b2 c
  refine ⟨⟨decode_opc (fmtRQ_selNum 0xAA#8 r q) rfl rfl, congrArg Host.Outcome.next ?subRQ⟩,
    ⟨decode_opc (fmtRI_selNum 0x35#6 r i) rfl rfl, congrArg Host.Outcome.next ?sbcRI⟩,
    ⟨decode_opc (fmtRQ_selNum 0xAB#8 r q) rfl rfl, congrArg Host.Outcome.next ?sbcRQ⟩⟩
  case subRQ => exact (arithOpnd_eq _ r q s).trans (resultCZ_sub4 (Int.sub_zero _) r b2 s)
  case sbcRI => exact (arithImm_eq _ r i s).trans (resultCZ_sub4 rfl r b1 s)
  case sbcRQ => exact (arithOpnd_eq _ r q s).trans (resultCZ_sub4 rfl r b2 s)

/-! ## Logical operations -/

/-- Everything a logical operation with an immediate does (47_arith.md R262, R264, R266). -/
theorem logicImm_eq (f : Nib → Nib → Nib) (r : Sel) (i : Nib) (s : State) :
    logicImm f r i s = logicDone r (f (srcValue r s s.bus) i) (srcBus r s s.bus) s := by
  rw [logicImm, opnd_eq, resultZ_eq]

/-- Everything a logical operation on two operands does (47_arith.md R263, R265, R267). -/
theorem logicOpnd_eq (f : Nib → Nib → Nib) (r q : Sel) (s : State) :
    logicOpnd f r q s =
      logicDone r (f (srcValue r s s.bus) (srcValue q s (srcBus r s s.bus))) (srcBus q s (srcBus r s s.bus)) s := by
  rw [logicOpnd, opnds_eq, resultZ_eq]

/-- NOT is XOR with 0xF (30_encoding.md R136). -/
theorem logicImm_xor_ones (r : Sel) (s : State) :
    logicImm (fun a b => a ^^^ b) r 0xF#4 s = logicDone r (~~~ srcValue r s s.bus) (srcBus r s s.bus) s := by
  rw [logicImm_eq, show (0xF#4 : Nib) = BitVec.allOnes 4 from rfl, BitVec.xor_allOnes]

/-- Settles O18: `logicImm_eq` and `logicOpnd_eq` at each operation, and `logicImm_xor_ones` for NOT. -/
theorem logicResults : Obligations.LogicResults := by
  unfold Obligations.LogicResults
  intro r q i s b1 x y b2
  exact ⟨⟨decode_opc (fmtRI_selNum 0x32#6 r i) rfl rfl, congrArg _ (logicImm_eq _ r i s)⟩,
    ⟨decode_opc (fmtRQ_selNum 0xAC#8 r q) rfl rfl, congrArg _ (logicOpnd_eq _ r q s)⟩,
    ⟨decode_opc (fmtRI_selNum 0x33#6 r i) rfl rfl, congrArg _ (logicImm_eq _ r i s)⟩,
    ⟨decode_opc (fmtRQ_selNum 0xAD#8 r q) rfl rfl, congrArg _ (logicOpnd_eq _ r q s)⟩,
    ⟨decode_opc (fmtRI_selNum 0x34#6 r i) rfl rfl, congrArg _ (logicImm_eq _ r i s)⟩,
    ⟨decode_opc (fmtRQ_selNum 0xAE#8 r q) rfl rfl, congrArg _ (logicOpnd_eq _ r q s)⟩,
    congrArg _ (logicImm_xor_ones .a s), congrArg _ (logicImm_xor_ones .b s), congrArg _ (logicImm_xor_ones .mx s),
    congrArg _ (logicImm_xor_ones .my s)⟩

/-! ## Comparisons -/

/-- Everything writing Z alone and advancing does (47_arith.md R253). -/
theorem advance_setZ (n : Nat) (v : Nib) (s : State) :
    advance n (setZ v s) = flagsDone s.cpu.fC (decide (v = 0#4)) n s.bus s := advance_eq n _

/-- Everything a comparison of two values does, whatever D holds (47_arith.md R252, R268). -/
theorem compare_eq (x y : Nib) (b : Bus) (s : State) :
    advance 7 (setCZ (sub4 x y false false) { s with bus := b }) =
      flagsDone (decide (x.toNat < y.toNat)) (decide (x = y)) 7 b s := by
  simp only [advance_setCZ, sub4_borrow, sub4_eq_zero_iff]
  rfl

/-- Settles O19: CP is `compare_eq` and FAN is `advance_setZ`, each after its reads. -/
theorem compareResults : Obligations.CompareResults := by
  unfold Obligations.CompareResults
  intro r q i s b1 x y b2
  refine ⟨⟨decode_opc (fmtRI_selNum 0x37#6 r i) rfl rfl, congrArg Host.Outcome.next ?cpRI⟩,
    ⟨decode_opc (fmtRQ_selNum 0xF0#8 r q) rfl rfl, congrArg Host.Outcome.next ?cpRQ⟩,
    ⟨decode_opc (fmtRI_selNum 0x36#6 r i) rfl rfl, congrArg Host.Outcome.next ?fanRI⟩,
    ⟨decode_opc (fmtRQ_selNum 0xF1#8 r q) rfl rfl, congrArg Host.Outcome.next ?fanRQ⟩⟩
  case cpRI =>
    rw [opnd_eq]
    exact compare_eq x i b1 s
  case cpRQ =>
    rw [opnds_eq]
    exact compare_eq x y b2 s
  case fanRI =>
    rw [opnd_eq]
    exact advance_setZ 7 (x &&& i) { s with bus := b1 }
  case fanRQ =>
    rw [opnds_eq]
    exact advance_setZ 7 (x &&& y) { s with bus := b2 }

/-! ## Rotates -/

/-- 47_arith.md R273. -/
theorem rotLeft_eq (v : Nib) (c : Bool) :
    rotLeft v c = (BitVec.ofNat 4 (2 * v.toNat % 16 + c.toNat), decide (8 ≤ v.toNat)) := by
  revert v c
  decide

/-- 47_arith.md R274. -/
theorem rotRight_eq (v : Nib) (c : Bool) :
    rotRight v c = (BitVec.ofNat 4 (v.toNat / 2 + 8 * c.toNat), decide (v.toNat % 2 = 1)) := by
  revert v c
  decide

/-- Everything writing the flags of a rotate and advancing does (47_arith.md R273, R274). -/
theorem advance_setRotFlags (n : Nat) (x : Nib × Bool) (s : State) :
    advance n (setRotFlags x s) =
      flagsDone x.2 (if s.params.rotWritesZ then decide (x.1 = 0#4) else s.cpu.fZ) n s.bus s := advance_eq n _

/-- Everything a rotate that gives the digit `t` and the carry `c` does: Z is written when `ROT_WRITES_Z` (47_arith.md R273,
R274). -/
theorem rotate_eq {f : Nib → Bool → Nib × Bool} {r : Sel} {s : State} {t : Nat} {c : Bool}
    (hf : f (srcValue r s s.bus) s.cpu.fC = (BitVec.ofNat 4 t, c)) (ht : t < 16) (n : Nat) :
    rotate f r n s =
      aluDone r t c (if s.params.rotWritesZ then decide (t = 0) else s.cpu.fZ) n (srcBus r s s.bus) s := by
  simp only [rotate, opnd_eq, hf, advance_setRotFlags, flagsDone_setOpnd, digit_eq_zero_iff ht, setOpnd_params]
  rw [setOpnd_eq, dstCpu_fZ]

/-- The values of RLC's row whose selectors differ are undefined (30_encoding.md R134, 47_arith.md R273). -/
theorem undefinedOpcode_rlc {r q : Sel} (h : q ≠ r) : undefinedOpcode (opc (0xAF0 + 4 * selNum r + selNum q)) = true := by
  cases r <;> cases q <;> trivial

/-- Settles O20: `rotate_eq` at the digit of each rotate. -/
theorem rotateResults : Obligations.RotateResults := by
  unfold Obligations.RotateResults
  intro r s b1 x left right z
  have hx : x < 16 := (srcValue r s s.bus).isLt
  have hc : s.cpu.fC.toNat ≤ 1 := Bool.toNat_le _
  have hleft : left < 16 := by omega
  have hright : right < 16 := by omega
  refine ⟨⟨decode_opc ?rlc rfl rfl, congrArg _ (rotate_eq (rotLeft_eq _ _) hleft 7)⟩,
    ⟨decode_opc (fmtR2_selNum 0x3A3#10 r) rfl rfl, congrArg _ (rotate_eq (rotRight_eq _ _) hright 5)⟩,
    fun q hq => decode_undefined (undefinedOpcode_rlc hq)⟩
  case rlc =>
    show (fmtRQ 0xAF#8 r r).toNat = _
    rw [fmtRQ_selNum, BitVec.toNat_ofNat]
    omega

/-! ## Memory counts -/

/-- Everything a count that gives the digit `t` and the carry `c` does to its cell and the flags (47_arith.md R275, R276). -/
theorem countMem_eq {f : Nib → Nib × Bool} {n : Nib} {s : State} {t : Nat} {c : Bool}
    (hf : f (Memory.read s.bus.ram n.toNat) = (BitVec.ofNat 4 t, c)) (ht : t < 16) :
    countMem f n s =
      flagsDone c (decide (t = 0)) 7 { s.bus with ram := Memory.write s.bus.ram n.toNat (BitVec.ofNat 4 t) } s := by
  simp only [countMem, memRead_nibAddr, hf, memWrite_nibAddr, advance_setCZ, digit_eq_zero_iff ht]
  rfl

/-- 47_arith.md R275: counting up wraps from 0xF. -/
theorem add4_one (v : Nib) :
    add4 v 1#4 false false = (BitVec.ofNat 4 ((v.toNat + 1) % 16), decide (v.toNat = 15)) := by
  revert v
  decide

/-- 47_arith.md R276: counting down wraps from 0. -/
theorem sub4_one (v : Nib) :
    sub4 v 1#4 false false = (BitVec.ofNat 4 ((v.toNat + 15) % 16), decide (v.toNat = 0)) := by
  revert v
  decide

/-- Settles O21: `countMem_eq` at the two counts, both of which are binary. -/
theorem memoryCountResults : Obligations.MemoryCountResults := by
  unfold Obligations.MemoryCountResults
  intro n s x up down
  have hup : up < 16 := Nat.mod_lt _ (by decide)
  have hdown : down < 16 := Nat.mod_lt _ (by decide)
  exact ⟨⟨decode_opc (fmtI4_toNat 0xF6#8 n) rfl rfl, congrArg Host.Outcome.next (countMem_eq (add4_one _) hup)⟩,
    ⟨decode_opc (fmtI4_toNat 0xF7#8 n) rfl rfl, congrArg Host.Outcome.next (countMem_eq (sub4_one _) hdown)⟩⟩

/-! ## Multi-digit forms -/

/-- Everything a multi-digit form that gives the digit `t` and the carry `c` does: the destination is written at the old index, and
`bump` counts the index after it (47_arith.md R277 to R280). -/
theorem digitOp_eq {f : Nib → Nib → Nib × Bool} {m r : Sel} {inc : State → State} {bump : Cpu → Cpu} {s : State} {t : Nat}
    {c : Bool} (hinc : ∀ u, advance 7 (inc u) = { u with cpu := nextCpu (bump u.cpu), cost := 7 })
    (hf : f (srcValue m s s.bus) (srcValue r s (srcBus m s s.bus)) = (BitVec.ofNat 4 t, c)) (ht : t < 16) :
    digitOp f m r inc s =
      { s with
        cpu := nextCpu (bump { dstCpu m (BitVec.ofNat 4 t) s.cpu with fC := c, fZ := decide (t = 0) })
        bus := dstBus m (BitVec.ofNat 4 t) s (srcBus r s (srcBus m s s.bus))
        cost := 7 } := by
  simp only [digitOp, opnds_eq, hf, hinc, setCZ, setOpnd_eq, digit_eq_zero_iff ht]
  rfl

/-- Settles O22: `digitOp_eq` at the sum or the difference of the two digits, with the count of X or of Y. -/
theorem multiDigitResults : Obligations.MultiDigitResults := by
  unfold Obligations.MultiDigitResults
  intro r s d bx vx rx by' vy ry c stepX stepY
  refine ⟨⟨decode_opc (fmtR2_selNum 0x3CA#10 r) rfl rfl, congrArg Host.Outcome.next ?acpx⟩,
    ⟨decode_opc (fmtR2_selNum 0x3CB#10 r) rfl rfl, congrArg Host.Outcome.next ?acpy⟩,
    ⟨decode_opc (fmtR2_selNum 0x3CE#10 r) rfl rfl, congrArg Host.Outcome.next ?scpx⟩,
    ⟨decode_opc (fmtR2_selNum 0x3CF#10 r) rfl rfl, congrArg Host.Outcome.next ?scpy⟩⟩
  case acpx => exact digitOp_eq (advance_incX 7) (add4_eq _ _ _ _) (sumDigit_lt _ _)
  case acpy => exact digitOp_eq (advance_incY 7) (add4_eq _ _ _ _) (sumDigit_lt _ _)
  case scpx => exact digitOp_eq (advance_incX 7) (sub4_eq _ _ _ _) (diffDigit_lt _ _)
  case scpy => exact digitOp_eq (advance_incY 7) (sub4_eq _ _ _ _) (diffDigit_lt _ _)

end Sys2Proof.Machine
end

section
/-! The step procedure (60_exceptions.md R300, R302): what its last parts do to a state, and the interrupt check with the enable delay
(R304 to R308). -/

namespace Sys2Proof.Machine

open Sys2Proof.Safety

/-! ## The parts of a step -/

/-- What follows the instruction, field by field (10_state.md R25, 60_exceptions.md R305). -/
theorem epilogue_eq (i0 pset : Bool) (s : State) :
    epilogue i0 pset s =
      { s with cpu := { s.cpu with
        npc := if pset then s.cpu.npc else s.cpu.pc
        intDelay := if i0 = false ∧ s.cpu.fI = true then true else s.cpu.intDelay } } := by
  simp only [epilogue, Bool.and_eq_true, Bool.not_eq_true']

/-- Settles O7: `step_of_exec` with the parts of the step written out. -/
theorem stepRunsDecodedInstruction : Obligations.StepRunsDecodedInstruction := by
  unfold Obligations.StepRunsDecodedInstruction
  rintro s t i hr hh rfl - hexec
  rw [step_of_exec hr hh hexec, epilogue_eq]
  rfl

/-- The end of a step adds `INT_CYCLES` exactly when it enters an interrupt (60_exceptions.md R302, R306). -/
theorem finishStep_cost (pset : Bool) (s : State) :
    ((finishStep pset s).diag.interruptCount = s.diag.interruptCount ∧ (finishStep pset s).cost = s.cost) ∨
      ((finishStep pset s).diag.interruptCount = s.diag.interruptCount + 1 ∧
        (finishStep pset s).cost = s.cost + s.params.intCycles) := by
  simp only [finishStep, advanceClock_diag, advanceClock_cost]
  rcases interruptCheck_cases pset s with ⟨-, e⟩ | ⟨-, e, -⟩ | ⟨-, -, -, src, -, e⟩ <;> rw [e]
  · exact .inl ⟨rfl, rfl⟩
  · exact .inl ⟨rfl, rfl⟩
  · exact .inr ⟨rfl, rfl⟩

/-- Settles O9: with the reset latch the cost is set alone; the other two ways of a step end in `finishStep_cost`. -/
theorem stepCycles : Obligations.StepCycles := by
  unfold Obligations.StepCycles
  intro s t hstep base
  rcases step_cases s t hstep with ⟨hr, rfl⟩ | ⟨hr, hh, rfl⟩ | ⟨hr, hh, u, hu, rfl⟩
  · have hbase : base = s.params.haltStepCycles := if_pos (by rw [hr, Bool.true_or])
    exact .inl ⟨rfl, hbase.symm⟩
  · have hbase : base = s.params.haltStepCycles := if_pos (by rw [hh, Bool.or_true])
    rw [hbase]
    exact finishStep_cost false (idled s)
  · have hbase : base = u.cost := (if_neg (by simp [hr, hh])).trans (exec_cost _ s u hu).symm
    have htouch := exec_touches _ s u hu
    rw [hbase, ← htouch.diag, ← htouch.params]
    exact finishStep_cost _ (epilogue s.cpu.fI (isPset (fetch s)) u)

/-! ## The interrupt check -/

/-- A pending enable delay uses up the check (60_exceptions.md R305). -/
theorem interruptCheck_of_intDelay {s : State} (pset : Bool) (h : s.cpu.intDelay = true) :
    interruptCheck pset s = { s with cpu := { s.cpu with intDelay := false } } := if_pos h

/-- Without a delay, `I` clear, a masking PSET or the lack of a pending source each keep the check from an entry
(60_exceptions.md R306). -/
theorem interruptCheck_of_no_entry {pset : Bool} {s : State} (hdelay : s.cpu.intDelay = false)
    (h : s.cpu.fI = false ∨ (s.params.psetMasksInterrupt = true ∧ pset = true) ∨ ∀ src, ¬ isPending s.bus.io src) :
    interruptCheck pset s = s := by
  rcases interruptCheck_cases pset s with ⟨hdelay', -⟩ | ⟨-, e, -⟩ | ⟨-, hI, hmask, src, hsrc, -⟩
  · rw [hdelay] at hdelay'
    cases hdelay'
  · exact e
  · rcases h with hI' | ⟨hparam, hpset⟩ | hnone
    · rw [hI] at hI'
      cases hI'
    · simp only [hparam, hpset, Bool.and_self, Bool.true_eq_false] at hmask
    · exact absurd ((pending_iff _ src).mp (List.find?_some hsrc)) (hnone src)

/-- Everything an entry does, its diagnostic counters apart (60_exceptions.md R306). -/
theorem enterInterrupt_eq (src : IntSource) (s : State) :
    enterInterrupt src s =
      { s with
        cpu := { s.cpu with
          sp := spDown s.cpu.sp 3
          fI := false
          halt := false
          pc := pcAt (pcBank s.cpu.pc) 1 (vectorNum src)
          npc := pcAt (pcBank s.cpu.pc) 1 (vectorNum src) }
        bus := pushedReturn s.cpu.sp s.cpu.pc s
        diag := (enterInterrupt src s).diag
        cost := s.cost + s.params.intCycles } := by
  simp only [enterInterrupt, pushReturn_eq, handlerAddr_eq]

/-- The vector that an entry records (60_exceptions.md R306). -/
theorem enterInterrupt_lastVector (src : IntSource) (s : State) :
    (enterInterrupt src s).diag.lastVector.toNat = 256 + vectorNum src := by
  show ((handlerAddr s.cpu.pc src).extractLsb' 0 12).toNat = _
  have hvector : vectorNum src < 256 := by cases src <;> decide
  rw [handlerAddr_eq, BitVec.extractLsb'_toNat, pcAt, BitVec.toNat_ofNat, Nat.shiftRight_zero]
  omega

/-- An entry counts once for its source and for no other (60_exceptions.md R314). -/
theorem countOf_enterInterrupt (src k : IntSource) (s : State) :
    countOf (enterInterrupt src s).diag k = countOf s.diag k + (if k = src then 1 else 0) := by
  cases src <;> cases k <;> rfl

/-- Settles O13: the delay, the three ways without an entry, and the entry of the taken source part by part. -/
theorem interruptCheckAndEntry : Obligations.InterruptCheckAndEntry := by
  unfold Obligations.InterruptCheckAndEntry
  intro pset s
  refine ⟨interruptCheck_of_intDelay pset, interruptCheck_of_no_entry, fun hdelay hI hmask src htaken => ?_⟩
  have hmask' : (s.params.psetMasksInterrupt && pset) = false := by
    rw [Bool.eq_false_iff, ne_eq, Bool.and_eq_true]
    exact hmask
  refine ⟨(enterInterrupt src s).diag, ?_, rfl, enterInterrupt_lastVector src s, rfl, fun k => countOf_enterInterrupt src k s⟩
  rw [interruptCheck_of_isTaken hdelay hI hmask' htaken]
  exact enterInterrupt_eq src s

/-! ## The enable delay (60_exceptions.md R305, 70_reset_and_hazards.md R411, R412) -/

theorem fI_not_mem_selReg (r : Sel) : Reg.fI ∉ selReg r := by cases r <;> decide

/-- An instruction of the table that may write `I` may write `D` too; only the spellings EI and DI write `I` alone
(10_state.md R28). -/
theorem fD_mem_writes_of_fI {p : Params} {i : Instr} (halias : i.isAlias = false) (h : Reg.fI ∈ writes p i) :
    Reg.fD ∈ writes p i := by
  cases i
  case setF | rstF | popF => simp [writes]
  case ei | di => exact absurd halias (by decide)
  case rlc | rrc => cases hz : p.rotWritesZ <;> simp [writes, fI_not_mem_selReg, hz] at h
  all_goals simp [writes, fI_not_mem_selReg] at h

/-- RST F sets no flag (45_flag.md R221). -/
theorem fI_of_rstF {n : Nib} {s t : State} (h : exec (.rstF n) s = .next t) (hI : t.cpu.fI = true) : s.cpu.fI = true := by
  have ht : t = keepFlagBits n s := by
    cases h
    rfl
  rw [ht, keepFlagBits_eq] at hI
  exact (Bool.and_eq_true_iff.mp hI).1

/-- Only SET F and POP F take `I` from 0 to 1 (70_reset_and_hazards.md R412). -/
theorem decode_of_enables {op : Opcode} {s t : State} (h : exec (decode op) s = .next t) (hI : s.cpu.fI = false)
    (hI' : t.cpu.fI = true) : (∃ n, decode op = .setF n) ∨ decode op = .popF := by
  have hwrites : Reg.fI ∈ writes s.params (decode op) := by
    by_contra hnot
    have hsame : t.cpu.fI.toNat = s.cpu.fI.toNat := exec_writesOnly _ s t h .fI hnot
    rw [hI, hI'] at hsame
    cases hsame
  obtain ⟨-, -, halias, -⟩ := decode_hasOpcode op
  have hbase := base_of_fD_mem_writes (fD_mem_writes_of_fI halias hwrites)
  rw [base_decode] at hbase
  rcases hbase with hset | ⟨n, hrst⟩ | hpop
  · exact .inl hset
  · rw [hrst] at h
    rw [fI_of_rstF h hI'] at hI
    cases hI
  · exact .inr hpop

/-- Settles O14: the delay that the instruction arms is what the check of the same step uses up. -/
theorem enableDelay : Obligations.EnableDelay := by
  unfold Obligations.EnableDelay
  intro s t u hr hh hI hu hI' hstep
  have harmed : (epilogue s.cpu.fI (isPset (fetch s)) u).cpu.intDelay = true := by
    rw [epilogue_eq]
    exact if_pos ⟨hI, hI'⟩
  rw [step_of_exec hr hh hu, finishStep, interruptCheck_of_intDelay _ harmed] at hstep
  cases hstep
  refine ⟨?_, hI', rfl, rfl, decode_of_enables hu hI hI'⟩
  exact congrArg Diag.interruptCount (exec_touches _ s u hu).diag

end Sys2Proof.Machine
end

section
/-! The serial port (20_memory.md R75, 60_exceptions.md R368, R369) and the timer control writes (20_memory.md R81, 60_exceptions.md
R332, R336, R343). -/

namespace Sys2Proof.Machine

/-! ## The serial port -/

/-- With both halves written the byte goes out and the mask is cleared (20_memory.md R75). -/
theorem serialEmit_full {b : Bus} (h : b.io.sioMask = 3#2) :
    (serialEmit b).io.sioMask = 0#2 ∧ (serialEmit b).events = b.events ++ [.serialOut (serialEmit b).io.sd] := by
  rw [serialEmit_sd, serialEmit, if_pos h]
  exact ⟨rfl, rfl⟩

/-- With one half written nothing goes out yet (20_memory.md R75). -/
theorem serialEmit_half {b : Bus} (h : b.io.sioMask ≠ 3#2) : serialEmit b = b := if_neg h

@[simp] theorem serialEmit_isio (b : Bus) : (serialEmit b).io.isio = b.io.isio := by
  rw [serialEmit]
  split <;> rfl

/-- The mask after a write to SDL: full exactly when SDH was written before (20_memory.md R75). -/
theorem sioMask_or_low : ∀ m : BitVec 2, m ||| 1#2 = if m.getLsbD 1 then 3#2 else 1#2 := by decide

@[inherit_doc sioMask_or_low] theorem sioMask_or_high : ∀ m : BitVec 2, m ||| 2#2 = if m.getLsbD 0 then 3#2 else 2#2 := by decide

/-- A write to one half, the other having been written or not: `half` is the mask bit of the written half alone, `other` says
whether the other half's is set (20_memory.md R75). -/
theorem serialEmit_cases {b : Bus} {half : BitVec 2} {other : Bool} (hhalf : half ≠ 3#2)
    (hmask : b.io.sioMask = if other then 3#2 else half) :
    (other = true → (serialEmit b).io.sioMask = 0#2 ∧ (serialEmit b).events = b.events ++ [.serialOut (serialEmit b).io.sd]) ∧
    (other = false → (serialEmit b).io.sioMask = half ∧ (serialEmit b).events = b.events) := by
  cases other
  · have hm : b.io.sioMask = half := hmask
    rw [serialEmit_half (by rw [hm]; exact hhalf)]
    exact ⟨nofun, fun _ => ⟨hm, rfl⟩⟩
  · exact ⟨fun _ => serialEmit_full hmask, nofun⟩

/-- Settles O42: each write stores its digit and sets its mask bit, and `serialEmit_cases` says what follows. -/
theorem serialPort : Obligations.SerialPort := by
  unfold Obligations.SerialPort
  intro s v w b lo hi
  have hlo : lo = serialEmit { b with io := { b.io with
      sd := byteOf (hiNib b.io.sd) v, sioMask := b.io.sioMask ||| 1#2 } } := busWrite_regAddr s.params .sdl v b
  have hhi : hi = serialEmit { b with io := { b.io with
      sd := byteOf v (loNib b.io.sd), sioMask := b.io.sioMask ||| 2#2 } } := busWrite_regAddr s.params .sdh v b
  clear_value lo hi
  subst hlo hhi
  obtain ⟨hloFull, hloHalf⟩ := serialEmit_cases (b := { b with io := { b.io with
    sd := byteOf (hiNib b.io.sd) v, sioMask := b.io.sioMask ||| 1#2 } }) (by decide) (sioMask_or_low b.io.sioMask)
  obtain ⟨hhiFull, hhiHalf⟩ := serialEmit_cases (b := { b with io := { b.io with
    sd := byteOf v (loNib b.io.sd), sioMask := b.io.sioMask ||| 2#2 } }) (by decide) (sioMask_or_high b.io.sioMask)
  refine ⟨?_, ?_, hloFull, hloHalf, hhiFull, hhiHalf, serialEmit_isio _, serialEmit_isio _, rfl⟩
  · rw [serialEmit_sd, byteOf_toNat, hiNib_toNat]
  · rw [serialEmit_sd, byteOf_toNat, loNib_toNat]

/-! ## The timer control writes -/

theorem nib_bit0_eq (v : Nib) : v.getLsbD 0 = decide (v.toNat % 2 = 1) := by revert v; decide

theorem nib_bit1_eq (v : Nib) : v.getLsbD 1 = decide (2 ≤ v.toNat % 4) := by revert v; decide

/-- Settles O44: each control write by its own equation, its bits as numbers. -/
theorem timerControls : Obligations.TimerControls := by
  unfold Obligations.TimerControls
  intro p v b
  refine ⟨(busWrite_regAddr p .ctrlTm v b).trans ?_, (busWrite_regAddr p .ctrlSw v b).trans ?_,
    (busWrite_regAddr p .ctrlPt v b).trans ?_⟩
  · simp only [ioWrite, ctrlTmWrite, nib_bit0_eq, decide_eq_true_eq]
  · simp only [ioWrite, ctrlSwWrite, nib_bit0_eq, nib_bit1_eq, decide_eq_true_eq]
  · simp only [ioWrite, ctrlPtWrite, nib_bit0_eq, nib_bit1_eq, decide_eq_true_eq]

end Sys2Proof.Machine
end

section
/-! The K ports: host levels, pull-ups and edges (60_exceptions.md R360 to R362, R366). -/

namespace Sys2Proof.Machine

/-! ## The edges -/

/-- A nibble that can only have bit `i` set is not 0 exactly when it is set. -/
theorem ne_zero_of_single_bit {x : Nib} {i : Fin 4} (h : ∀ k, k ≠ i.val → x.getLsbD k = false) : (x != 0#4) = x.getLsbD i.val := by
  rw [Bool.eq_iff_iff, bne_iff_ne]
  constructor
  · intro hne
    by_contra hbit
    refine hne (BitVec.eq_of_getLsbD_eq fun k _ => ?_)
    rw [BitVec.getLsbD_zero]
    by_cases hk : k = i.val
    · rw [hk, Bool.eq_false_iff.mpr hbit]
    · exact h k hk
  · rintro hbit rfl
    rw [BitVec.getLsbD_zero] at hbit
    cases hbit

/-- The K1 pins with an edge, pin by pin (60_exceptions.md R361). -/
theorem k1Events_getLsbD (old new : Nib) (k : Nat) : (k1Events old new).getLsbD k = (old.getLsbD k && !new.getLsbD k) := by
  by_cases hk : k < 4
  · simp only [k1Events, BitVec.getLsbD_and, BitVec.getLsbD_not, hk, decide_true, Bool.true_and]
  · rw [BitVec.getLsbD_of_ge _ _ (by omega), BitVec.getLsbD_of_ge old _ (by omega), Bool.false_and]

/-- The K0 pins with an edge, pin by pin (60_exceptions.md R362). -/
theorem k0Events_getLsbD (dfk0 old new : Nib) (k : Nat) :
    (k0Events dfk0 old new).getLsbD k = ((old.getLsbD k != new.getLsbD k) && (new.getLsbD k == dfk0.getLsbD k)) := by
  by_cases hk : k < 4
  · have hedge : ∀ was now select : Bool, (was && !now && !select || !was && now && select) = (was != now && now == select) := by
      decide
    simp only [k0Events, BitVec.getLsbD_or, BitVec.getLsbD_and, BitVec.getLsbD_not, hk, decide_true, Bool.true_and, hedge]
  · rw [BitVec.getLsbD_of_ge _ _ (by omega), BitVec.getLsbD_of_ge old _ (by omega), BitVec.getLsbD_of_ge new _ (by omega)]
    rfl

/-- One pin of K1 has an enabled edge exactly when it falls with its mask bit set (60_exceptions.md R361). -/
theorem k1Events_setBit (old mask : Nib) (i : Fin 4) (level : Bool) :
    (k1Events old (setBit old i level) &&& mask != 0#4) = (old.getLsbD i.val && !level && mask.getLsbD i.val) := by
  rw [ne_zero_of_single_bit (i := i)]
  · rw [BitVec.getLsbD_and, k1Events_getLsbD, setBit_getLsbD, if_pos rfl]
  · intro k hk
    rw [BitVec.getLsbD_and, k1Events_getLsbD, setBit_getLsbD, if_neg hk, Bool.and_not_self, Bool.false_and]

/-- One pin of K0 has an enabled edge exactly when it changes to the level that DFK0 selects, with its mask bit set
(60_exceptions.md R362). -/
theorem k0Events_setBit (dfk0 old mask : Nib) (i : Fin 4) (level : Bool) :
    (k0Events dfk0 old (setBit old i level) &&& mask != 0#4) =
      ((old.getLsbD i.val != level) && (level == dfk0.getLsbD i.val) && mask.getLsbD i.val) := by
  rw [ne_zero_of_single_bit (i := i)]
  · rw [BitVec.getLsbD_and, k0Events_getLsbD, setBit_getLsbD, if_pos rfl]
  · intro k hk
    rw [BitVec.getLsbD_and, k0Events_getLsbD, setBit_getLsbD, if_neg hk, bne_self_eq_false, Bool.false_and, Bool.false_and]

/-! ## The host's calls -/

theorem setPin_of_level {i : Fin 4} (port : HostPort) (level : Bool) (s : State) :
    setPin port i.val level.toNat s = withBus s { s.bus with io := pinLevel s.params port i level s.bus.io } := by
  cases level <;> simp [setPin]

/-- A released pin is set to its released level (60_exceptions.md R360). -/
theorem releasePin_eq_setPin (port : HostPort) (i : Fin 4) (s : State) :
    releasePin port i.val s = setPin port i.val (releasedLevel s.params port i).toNat s := by
  rw [setPin_of_level, releasePin, dif_pos i.isLt]

/-- 60_exceptions.md R366. -/
theorem setPin_of_no_pin {j : Nat} (hj : 4 ≤ j) (port : HostPort) (level : Nat) (s : State) : setPin port j level s = s :=
  dif_neg (by omega)

@[inherit_doc setPin_of_no_pin] theorem releasePin_of_no_pin {j : Nat} (hj : 4 ≤ j) (port : HostPort) (s : State) :
    releasePin port j s = s := dif_neg (by omega)

@[inherit_doc setPin_of_no_pin] theorem setPin_of_no_level {level : Nat} (hl : 2 ≤ level) (port : HostPort) (i : Fin 4) (s : State) :
    setPin port i.val level s = s := by
  rw [setPin, dif_pos i.isLt, if_neg (by omega)]

@[inherit_doc setPin_of_no_pin] theorem setPin_other (id j level : Nat) (s : State) : setPin (.other id) j level s = s := by
  unfold setPin
  split
  · split <;> rfl
  · rfl

@[inherit_doc setPin_of_no_pin] theorem releasePin_other (id j : Nat) (s : State) : releasePin (.other id) j s = s := by
  unfold releasePin
  split <;> rfl

/-- Settles O54: a call on a K port is `setK1` or `setK0` of one bit; every call out of range is the identity. -/
theorem kPortEdges : Obligations.KPortEdges := by
  unfold Obligations.KPortEdges
  intro s i j level io k1 k0 was1 was0
  have hk1 : k1 = withBus s { s.bus with io := setK1 (setBit io.kl1 i level) io } := setPin_of_level .k1 level s
  have hk0 : k0 = withBus s { s.bus with io := setK0 (setBit io.kl0 i level) io } := setPin_of_level .k0 level s
  clear_value k1 k0
  subst hk1 hk0
  exact ⟨rfl, setBit_getLsbD io.kl1 i level, congrArg (io.ik1 || ·) (k1Events_setBit io.kl1 io.eik1 i level),
    rfl, setBit_getLsbD io.kl0 i level, congrArg (io.ik0 || ·) (k0Events_setBit io.dfk0 io.kl0 io.eik0 i level),
    releasePin_eq_setPin .k1 i s, releasePin_eq_setPin .k0 i s,
    fun port => ⟨fun hj => ⟨setPin_of_no_pin hj port _ s, releasePin_of_no_pin hj port s⟩, fun hj => setPin_of_no_level hj port i s⟩,
    fun id l => ⟨setPin_other id j l s, releasePin_other id j s⟩⟩

end Sys2Proof.Machine
end

section
/-! The timers: what a tick of each does (60_exceptions.md R309, R330, R335, R341, R342), and the oscillator tick that runs them
(R322, R324). -/

namespace Sys2Proof.Machine

/-! ## The main timer -/

theorem mainTimerTick_idle (p : Params) {b : Bus} (h : 0 < b.clk.tmResidual - 1) :
    mainTimerTick p b = { b with clk := { b.clk with tmResidual := b.clk.tmResidual - 1 } } := if_neg (not_le.mpr h)

theorem mainTimerTick_count (p : Params) {b : Bus} (h : b.clk.tmResidual - 1 ≤ 0) :
    mainTimerTick p b =
      { b with
        clk := { b.clk with tmResidual := b.clk.tmResidual - 1 + p.clkTimerDiv, tmTicks := b.clk.tmTicks + 1 }
        io := { b.io with tm := b.io.tm + 1#8, ift := b.io.ift ||| tmFlags b.io.tm (b.io.tm + 1#8) } } := if_pos h

/-- The bits that a count of TM makes fall (60_exceptions.md R330): bit `n` falls when all bits up to it are 1. -/
theorem tmFlags_count : ∀ t : Byte,
    (tmFlags t (t + 1#8)).getLsbD 0 = decide (t.toNat % 8 = 7) ∧ (tmFlags t (t + 1#8)).getLsbD 1 = decide (t.toNat % 32 = 31) ∧
      (tmFlags t (t + 1#8)).getLsbD 2 = decide (t.toNat % 128 = 127) ∧ (tmFlags t (t + 1#8)).getLsbD 3 = decide (t.toNat = 255) := by
  decide +kernel

/-- Settles O50: the two ways of the tick, with `tmFlags_count` for the bits that fall. -/
theorem mainTimer : Obligations.MainTimer := by
  unfold Obligations.MainTimer
  intro p b c r old
  refine ⟨mainTimerTick_idle p, fun hr => ?_⟩
  have hc : c = _ := mainTimerTick_count p hr
  clear_value c
  subst hc
  obtain ⟨h0, h1, h2, h3⟩ := tmFlags_count b.io.tm
  have htm : b.io.tm + 1#8 = BitVec.ofNat 8 (old + 1) := by
    apply BitVec.eq_of_toNat_eq
    simp [BitVec.toNat_add, old]
  refine ⟨by rw [← htm], ?_, ?_, ?_, ?_⟩
  · exact BitVec.getLsbD_or.trans (congrArg _ h0)
  · exact BitVec.getLsbD_or.trans (congrArg _ h1)
  · exact BitVec.getLsbD_or.trans (congrArg _ h2)
  · exact BitVec.getLsbD_or.trans (congrArg _ h3)

/-! ## The stopwatch -/

theorem stopwatchTick_idle (p : Params) {b : Bus} (h : 0 < b.clk.swResidual - 1) :
    stopwatchTick p b = { b with clk := { b.clk with swResidual := b.clk.swResidual - 1 } } := if_neg (not_le.mpr h)

theorem stopwatchTick_stopped (p : Params) {b : Bus} (h : b.clk.swResidual - 1 ≤ 0) (hrun : b.io.swrun = false) :
    stopwatchTick p b = { b with clk := { b.clk with swResidual := b.clk.swResidual - 1 + p.swDiv } } :=
  (if_pos h).trans (if_neg (Bool.eq_false_iff.mp hrun))

theorem stopwatchTick_count (p : Params) {b : Bus} (h : b.clk.swResidual - 1 ≤ 0) (hrun : b.io.swrun = true) :
    stopwatchTick p b =
      { b with
        clk := { b.clk with swResidual := b.clk.swResidual - 1 + p.swDiv, swTicks := b.clk.swTicks + 1 }
        io := stopwatchCount b.io } := (if_pos h).trans (if_pos hrun)

/-- The digits and flags after a count from digits 0 to 9 (60_exceptions.md R335): neither carries, the tenths carry, or the
seconds do. -/
theorem stopwatchCount_eq {io : Io} {next : Nat} (hl : io.swl.toNat ≤ 9) (hh : io.swh.toNat ≤ 9)
    (hnext : 10 * io.swh.toNat + io.swl.toNat + 1 = next) :
    stopwatchCount io =
      { io with
        swl := BitVec.ofNat 4 (next % 10)
        swh := BitVec.ofNat 4 (next / 10 % 10)
        ifsw := io.ifsw ||| (if next = 100 then 3#2 else if next % 10 = 0 then 1#2 else 0#2) } := by
  unfold stopwatchCount
  split
  · next h9 =>
    split
    · next hh9 =>
      have : next = 100 := by omega
      subst this
      rfl
    · next hh9 =>
      have hdigit : io.swh + 1#4 = BitVec.ofNat 4 (next / 10 % 10) := by
        apply BitVec.eq_of_toNat_eq
        simp only [BitVec.toNat_add, BitVec.toNat_ofNat]
        omega
      have hzero : next % 10 = 0 := by omega
      rw [← hdigit, hzero, if_neg (by omega), if_pos rfl]
  · next h9 =>
    have hlow : io.swl + 1#4 = BitVec.ofNat 4 (next % 10) := by
      apply BitVec.eq_of_toNat_eq
      simp only [BitVec.toNat_add, BitVec.toNat_ofNat]
      omega
    have hhigh : io.swh = BitVec.ofNat 4 (next / 10 % 10) := by
      apply BitVec.eq_of_toNat_eq
      simp only [BitVec.toNat_ofNat]
      omega
    rw [← hlow, ← hhigh, if_neg (by omega), if_neg (by omega), BitVec.or_zero]

/-- Settles O51: the three ways of the tick, with `stopwatchCount_eq` for the count. -/
theorem stopwatch : Obligations.Stopwatch := by
  unfold Obligations.Stopwatch
  intro p b hl hh c r next
  refine ⟨stopwatchTick_idle p, stopwatchTick_stopped p, fun hr hrun => ?_⟩
  have hc : c = _ := stopwatchTick_count p hr hrun
  rw [stopwatchCount_eq hl hh (next := next) rfl] at hc
  clear_value c
  subst hc
  refine ⟨rfl, BitVec.getLsbD_or.trans (congrArg _ ?_), BitVec.getLsbD_or.trans (congrArg _ ?_)⟩
  · by_cases h100 : next = 100
    · rw [if_pos h100, h100]
      rfl
    · rw [if_neg h100]
      by_cases h10 : next % 10 = 0
      · rw [if_pos h10, decide_eq_true h10]
        rfl
      · rw [if_neg h10, decide_eq_false h10]
        rfl
  · by_cases h100 : next = 100
    · rw [if_pos h100, decide_eq_true h100]
      rfl
    · rw [if_neg h100, decide_eq_false h100]
      split <;> rfl

/-! ## The programmable timer -/

/-- `PT_DIV[PTC]` as an element of the list (60_exceptions.md R341). -/
theorem ptDivider_eq (p : Params) (io : Io) : ptDivider p io = p.ptDiv.toList.getD io.ptc.toNat none := by
  have h : io.ptc.toNat < 8 := io.ptc.isLt
  simp [ptDivider, List.getD_eq_getElem?_getD, Vector.getElem?_eq_getElem h]

/-- How many counts the timer makes from a value until it reaches 0 (60_exceptions.md R342). -/
def countsFrom (v : Byte) : Nat := if v = 0#8 then 256 else v.toNat

theorem countsFrom_pos (v : Byte) : 0 < countsFrom v := by
  unfold countsFrom
  split
  · omega
  · next hv =>
    have hne : v.toNat ≠ 0 := fun h => hv (BitVec.eq_of_toNat_eq h)
    omega

theorem countsFrom_le (v : Byte) : countsFrom v ≤ 256 := by
  unfold countsFrom
  split <;> omega

theorem ofNat_countsFrom (v : Byte) : BitVec.ofNat 8 (countsFrom v) = v := by
  unfold countsFrom
  split
  · next hv => exact hv.symm
  · rw [BitVec.ofNat_toNat, BitVec.setWidth_eq]

theorem ofNat8_sub_one {n : Nat} (hn : 0 < n) : BitVec.ofNat 8 n - 1#8 = BitVec.ofNat 8 (n - 1) := by
  apply BitVec.eq_of_toNat_eq
  simp only [BitVec.toNat_sub, BitVec.toNat_ofNat]
  omega

/-- A count that does not reach 0 (60_exceptions.md R342). -/
theorem progTimerCount_of_more {io : Io} {n : Nat} (hn : 1 < n) (hle : n ≤ 256) (hpt : io.pt = BitVec.ofNat 8 n) :
    progTimerCount io = { io with pt := BitVec.ofNat 8 (n - 1) } := by
  have hne : BitVec.ofNat 8 (n - 1) ≠ 0#8 := by
    intro h
    have hzero : (n - 1) % 2 ^ 8 = 0 := congrArg BitVec.toNat h
    omega
  rw [progTimerCount, hpt, ofNat8_sub_one (by omega), if_neg hne]

/-- The count that reaches 0 raises IPT and takes the reload data (60_exceptions.md R342). -/
theorem progTimerCount_of_one {io : Io} (hpt : io.pt = 1#8) : progTimerCount io = { io with pt := io.rd, ipt := true } := by
  rw [progTimerCount, hpt, BitVec.sub_self, if_pos rfl]

/-- The counts before the one that reaches 0. -/
theorem progTimerCount_iterate_lt (io : Io) {k : Nat} (hk : k < countsFrom io.pt) :
    progTimerCount^[k] io = { io with pt := BitVec.ofNat 8 (countsFrom io.pt - k) } := by
  induction k with
  | zero =>
    rw [Function.iterate_zero_apply, Nat.sub_zero, ofNat_countsFrom]
  | succ k ih =>
    have hle := countsFrom_le io.pt
    rw [Function.iterate_succ_apply', ih (by omega), progTimerCount_of_more (n := countsFrom io.pt - k) (by omega) (by omega) rfl]
    rfl

/-- The counts up to the one that reaches 0. -/
theorem progTimerCount_iterate_eq (io : Io) :
    progTimerCount^[countsFrom io.pt] io = { io with pt := io.rd, ipt := true } := by
  have hpos := countsFrom_pos io.pt
  obtain ⟨k, hk⟩ := Nat.exists_eq_add_of_le' hpos
  rw [hk, Function.iterate_succ_apply', progTimerCount_iterate_lt io (by omega), progTimerCount_of_one]
  rw [hk, Nat.add_sub_cancel_left]

/-- Settles O52: the tick by the selected divider; then one run of counts from the counter's value and one from the reload data. -/
theorem programmableTimer : Obligations.ProgrammableTimer := by
  unfold Obligations.ProgrammableTimer
  constructor
  · intro p b c r d
    have hd : ptDivider p b.io = d := ptDivider_eq p b.io
    refine ⟨fun hnone => progTimerTick_none (hd.trans hnone), fun hsome hr => ?_, fun q hq hr => ?_⟩
    · obtain ⟨q, hq⟩ := Option.ne_none_iff_exists'.mp hsome
      exact (progTimerTick_some (hd.trans hq)).trans (if_neg (not_le.mpr hr))
    · exact (progTimerTick_some (hd.trans hq)).trans (if_pos hr)
  · intro io k m n
    have hreload (k : Nat) : progTimerCount^[m + k] io = progTimerCount^[k] { io with pt := io.rd, ipt := true } := by
      rw [Nat.add_comm, Function.iterate_add_apply]
      exact congrArg _ (progTimerCount_iterate_eq io)
    refine ⟨progTimerCount_iterate_lt io, ?_, fun hk => ?_, ?_⟩
    · rintro rfl
      exact progTimerCount_iterate_eq io
    · rw [hreload]
      exact progTimerCount_iterate_lt { io with pt := io.rd, ipt := true } hk
    · rintro rfl
      rw [hreload]
      exact progTimerCount_iterate_eq { io with pt := io.rd, ipt := true }

/-! ## The oscillator tick -/

/-- Settles O60: each part of the tick finds what it reads as it was before the tick, by the parts' `_local` lemmas. -/
theorem oscillatorTick : Obligations.OscillatorTick := by
  unfold Obligations.OscillatorTick
  intro p b m w t z
  rw [oscTick, mainTimerTick_local p b, stopwatchTick_local p b, progTimerTick_local p b, buzzerTick_local p b]
  case h => exact ⟨rfl, rfl, rfl, rfl⟩
  all_goals rfl

@[simp] theorem oscTick_oscTicks (p : Params) (b : Bus) : (oscTick p b).clk.oscTicks = b.clk.oscTicks + 1 :=
  congrArg (fun c : Bus => c.clk.oscTicks) (oscillatorTick p b)

/-! ## Runs of oscillator ticks -/

theorem oscTicks_eq_iterate (p : Params) (n : Nat) (b : Bus) : oscTicks p n b = (oscTick p)^[n] b := by
  induction n generalizing b with
  | zero => rfl
  | succ n ih => rw [oscTicks, ih, Function.iterate_succ_apply]

@[simp] theorem oscTicks_oscResidual (p : Params) (n : Nat) (b : Bus) : (oscTicks p n b).clk.oscResidual = b.clk.oscResidual := by
  induction n generalizing b with
  | zero => rfl
  | succ n ih => rw [oscTicks, ih, oscTick_oscResidual]

@[simp] theorem oscTicks_oscTicks (p : Params) (n : Nat) (b : Bus) : (oscTicks p n b).clk.oscTicks = b.clk.oscTicks + n := by
  induction n generalizing b with
  | zero => rfl
  | succ n ih =>
    rw [oscTicks, ih, oscTick_oscTicks]
    omega

/-- Settles O53: what a run of oscillator ticks leaves alone, and the cap on their number. (`Machine.fastForward` is the model's own
function.) -/
theorem Clock.fastForward : Obligations.FastForward := by
  unfold Obligations.FastForward
  intro n s r
  refine ⟨?_, ?_, oscTicks_ram .., oscTicks_vram .., oscTicks_oscResidual .., oscTicks_displayGeneration .., oscTicks_oscTicks ..⟩
  · show ((min (max n 0).toNat s.params.ffCap : Nat) : Int) = _
    omega
  · rw [← oscTicks_eq_iterate]
    rfl

end Sys2Proof.Machine
end

section
/-! The clock network over a step and over a run (60_exceptions.md R320, R321, R323). -/

namespace Sys2Proof.Machine

open Sys2Proof.Safety

/-! ## Advancing the clock -/

/-- No oscillator tick is due while the residual stays positive (60_exceptions.md R321). -/
theorem clockAdvance_idle {p : Params} {c : Nat} {b : Bus} (h : 0 < b.clk.oscResidual - c) :
    clockAdvance p c b = withOscResidual (b.clk.oscResidual - c) b := by
  simp only [clockAdvance, ticksDue, if_neg (not_le.mpr h), clockLoop]

/-- Advancing the clock network is the least number of ticks that makes the residual positive again (60_exceptions.md R321). -/
theorem clockAdvance_least {p : Params} (hw : p.wf = true) (c : Nat) (b : Bus) :
    ∃ k : Nat,
      clockAdvance p c b = withOscResidual (b.clk.oscResidual - c + k * oscDiv p) (oscTicks p k b) ∧
        0 < b.clk.oscResidual - c + k * oscDiv p ∧ (0 < k → b.clk.oscResidual - c + k * oscDiv p ≤ oscDiv p) := by
  have hdiv := oscDiv_pos hw
  by_cases h : 0 < b.clk.oscResidual - c
  · refine ⟨0, ?_, ?_, nofun⟩
    · rw [Nat.cast_zero, zero_mul, add_zero]
      exact clockAdvance_idle h
    · rw [Nat.cast_zero, zero_mul, add_zero]
      exact h
  · obtain ⟨k, hk⟩ := clockAdvance_ticks p c b
    have hres : (clockAdvance p c b).clk.oscResidual = b.clk.oscResidual - c + k * oscDiv p :=
      congrArg (fun d : Bus => d.clk.oscResidual) hk
    obtain ⟨hpos, hle⟩ := clockLoop_oscResidual (p := p) (ticksDue p (b.clk.oscResidual - c))
      (withOscResidual (b.clk.oscResidual - c) b) (ticksDue_spec hdiv _) ((not_lt.mp h).trans hdiv.le)
    exact ⟨k, hk, hres ▸ hpos, fun _ => hres ▸ hle⟩

/-- Settles O48. (`Machine.clockAdvance` is the model's own function.) -/
theorem Clock.clockAdvance : Obligations.ClockAdvance := by
  unfold Obligations.ClockAdvance
  exact fun p n b hw => clockAdvance_least hw n b

/-! ## The clock network in a step -/

/-- Reads and writes of data addresses leave the clock network alone. -/
theorem clk_of_reach {p : Params} {b c : Bus} (h : BusReach p b c) : c.clk = b.clk := by
  refine h.keeps (P := fun d => d.clk = b.clk) ?_ ?_ rfl
  · intro a d hd
    rw [ack_clk, hd]
  · intro a v d hd
    rw [busWrite_clk, hd]

@[simp] theorem interruptCheck_clk (pset : Bool) (s : State) : (interruptCheck pset s).bus.clk = s.bus.clk := by
  rcases interruptCheck_cases pset s with ⟨-, e⟩ | ⟨-, e, -⟩ | ⟨-, -, -, src, -, e⟩ <;> rw [e]
  exact clk_of_reach (touches_pushReturn s.cpu.pc s).bus

@[simp] theorem interruptCheck_resetLatch (pset : Bool) (s : State) :
    (interruptCheck pset s).cpu.resetLatch = s.cpu.resetLatch := by
  rcases interruptCheck_cases pset s with ⟨-, e⟩ | ⟨-, e, -⟩ | ⟨-, -, -, src, -, e⟩ <;> rw [e]
  rfl

/-- No instruction sets the reset latch (10_state.md R30). -/
theorem resetLatch_not_mem_writes (p : Params) (i : Instr) : Reg.resetLatch ∉ writes p i := by
  have hsel (r : Sel) : Reg.resetLatch ∉ selReg r := by cases r <;> decide
  cases i
  case rlc | rrc => cases hz : p.rotWritesZ <;> simp [writes, hsel, hz]
  all_goals simp [writes, hsel]

theorem exec_resetLatch {i : Instr} {s t : State} (h : exec i s = .next t) : t.cpu.resetLatch = s.cpu.resetLatch := by
  have hsame : t.cpu.resetLatch.toNat = s.cpu.resetLatch.toNat :=
    exec_writesOnly i s t h .resetLatch (resetLatch_not_mem_writes s.params i)
  exact Function.LeftInverse.injective Bool.ofNat_toNat hsame

/-- The end of a step advances the clock network, as the step found it, by the step's cost (60_exceptions.md R300). -/
theorem finishStep_clock (pset : Bool) (s : State) :
    (finishStep pset s).cpu.resetLatch = s.cpu.resetLatch ∧
      ∃ b, b.clk = s.bus.clk ∧ (finishStep pset s).bus = clockAdvance s.params (finishStep pset s).cost b := by
  refine ⟨interruptCheck_resetLatch pset s, (interruptCheck pset s).bus, interruptCheck_clk pset s, ?_⟩
  rw [finishStep, advanceClock_bus, advanceClock_cost, interruptCheck_params]

/-- A step without the reset latch advances the clock network by its cost and leaves the latch clear (60_exceptions.md R300). -/
theorem step_clock {s t : State} (hr : s.cpu.resetLatch = false) (h : step s = .next t) :
    t.cpu.resetLatch = false ∧ ∃ b, b.clk = s.bus.clk ∧ t.bus = clockAdvance s.params t.cost b := by
  rcases step_cases s t h with ⟨hr', -⟩ | ⟨-, -, rfl⟩ | ⟨-, -, u, hu, rfl⟩
  · rw [hr] at hr'
    cases hr'
  · rw [← hr]
    exact finishStep_clock false (idled s)
  · have htouch := exec_touches _ s u hu
    rw [← hr, ← exec_resetLatch hu, ← htouch.params, ← clk_of_reach htouch.bus]
    exact finishStep_clock _ (epilogue s.cpu.fI (isPset (fetch s)) u)

/-! ## The drift bound (60_exceptions.md R323) -/

/-- A step's next state. -/
theorem step_after (s : State) : step s = .next (after s) := by
  obtain ⟨t, h⟩ := step_next s
  rw [after, h]

/-- After `total` cycles since construction: the oscillator residual is what the ticks put in less the cycles, it is at most `DIV`,
and it is positive as soon as a cycle has passed. -/
structure ClockedFor (p : Params) (total : Nat) (s : State) : Prop where
  params : s.params = p
  latch : s.cpu.resetLatch = false
  residual : s.bus.clk.oscResidual = s.bus.clk.oscTicks * oscDiv p - total
  le : s.bus.clk.oscResidual ≤ oscDiv p
  pos : 0 < total → 0 < s.bus.clk.oscResidual

theorem clockedFor_construct {p : Params} (hw : p.wf = true) : ClockedFor p 0 (State.construct p) where
  params := rfl
  latch := rfl
  residual := by
    show (0 : Rat) = ((0 : Nat) : Rat) * oscDiv p - ((0 : Nat) : Rat)
    rw [Nat.cast_zero, zero_mul, sub_zero]
  le := (oscDiv_pos hw).le
  pos := nofun

theorem ClockedFor.after {p : Params} {total : Nat} {s : State} (hw : p.wf = true) (h : ClockedFor p total s) :
    ClockedFor p (total + (after s).cost) (after s) := by
  obtain ⟨hlatch, b, hclk, hbus⟩ := step_clock h.latch (step_after s)
  obtain ⟨k, hk, hpos, hle⟩ := clockAdvance_least hw (Safety.after s).cost b
  rw [h.params, hk] at hbus
  have hres : (Safety.after s).bus.clk.oscResidual = b.clk.oscResidual - (Safety.after s).cost + k * oscDiv p := by
    rw [hbus, withOscResidual_oscResidual]
  have hticks : (Safety.after s).bus.clk.oscTicks = b.clk.oscTicks + k := by
    rw [hbus]
    exact oscTicks_oscTicks p k b
  have hold := h.residual
  have hmax := h.le
  rw [← hclk] at hold hmax
  refine ⟨(step_params (step_after s)).trans h.params, hlatch, ?_, ?_, fun _ => hres ▸ hpos⟩
  · rw [hres, hticks, hold]
    push_cast
    ring
  · rcases Nat.eq_zero_or_pos k with rfl | hkpos
    · have hcost : (0 : Rat) ≤ (Safety.after s).cost := Nat.cast_nonneg _
      rw [hres, Nat.cast_zero]
      linarith
    · exact hres ▸ hle hkpos

theorem ClockedFor.run {p : Params} (hw : p.wf = true) (n : Nat) {total : Nat} {s : State} (h : ClockedFor p total s) :
    ClockedFor p (total + (run n s).1) (run n s).2 := by
  induction n generalizing total s with
  | zero => exact h
  | succ n ih =>
    have hrun := ih (h.after hw)
    rwa [Nat.add_assoc] at hrun

/-- A residual in its range fixes the number of ticks (60_exceptions.md R323). -/
theorem ClockedFor.ticks {p : Params} {total : Nat} {s : State} (hw : p.wf = true) (h : ClockedFor p total s) (htotal : 0 < total) :
    (s.bus.clk.oscTicks : Int) = ((total : Rat) / oscDiv p).floor + 1 := by
  have hdiv := oscDiv_pos hw
  have hpos := h.pos htotal
  have hle := h.le
  rw [h.residual] at hpos hle
  have hfloor : ⌊(total : Rat) / oscDiv p⌋ = (s.bus.clk.oscTicks : Int) - 1 := by
    rw [Int.floor_eq_iff, le_div_iff₀ hdiv, div_lt_iff₀ hdiv]
    push_cast
    constructor <;> linarith
  show _ = ⌊(total : Rat) / oscDiv p⌋ + 1
  omega

/-- Settles O49: construction starts and every step keeps `ClockedFor`, which fixes the number of ticks. -/
theorem driftBound : Obligations.DriftBound := by
  unfold Obligations.DriftBound
  intro p n hw r htotal
  have h := (clockedFor_construct hw).run hw n
  rw [Nat.zero_add] at h
  exact h.ticks hw htotal

end Sys2Proof.Machine
end

section
/-! Running for cycles (60_exceptions.md R303, notes/assumptions/14.md) and the runs of steps it answers. -/

namespace Sys2Proof.Machine

open Sys2Proof.Safety

/-! ## The loop -/

/-- A run that has reached its target answers where it is (60_exceptions.md R303). -/
theorem runLoop_reached {target : Int} {acc : Nat} (h : target ≤ acc) (rounds : Nat) (s : State) :
    runLoop target rounds acc s = some (.next (acc, s)) := by
  cases rounds with
  | zero => exact if_neg (not_lt.mpr h)
  | succ n => exact if_neg (not_lt.mpr h)

/-- Without rounds left a run below its target has no answer (notes/assumptions/14.md). -/
theorem runLoop_exhausted {target : Int} {acc : Nat} (h : (acc : Int) < target) (s : State) :
    runLoop target 0 acc s = none := if_pos h

/-- A run below its target makes a step and adds the cycles it returned (60_exceptions.md R303). -/
theorem runLoop_step {target : Int} {acc : Nat} (h : (acc : Int) < target) (rounds : Nat) (s : State) :
    runLoop target (rounds + 1) acc s = runLoop target rounds (acc + (after s).cost) (after s) := by
  rw [runLoop, if_pos h, step_after]

/-- What a loop that answers has done: it ran some number of steps, reached the target, and was below it before the last step. -/
theorem runLoop_sound {target : Int} {rounds acc total : Nat} {s t : State}
    (h : runLoop target rounds acc s = some (.next (total, t))) (hacc : (acc : Int) < target) :
    target ≤ total ∧ (total : Int) < target + t.cost ∧
      ∃ n, n ≤ rounds ∧ acc + (run n s).1 = total ∧ (run n s).2 = t := by
  induction rounds generalizing acc s with
  | zero =>
    rw [runLoop_exhausted hacc] at h
    cases h
  | succ rounds ih =>
    rw [runLoop_step hacc] at h
    by_cases hnext : target ≤ ((acc + (after s).cost : Nat) : Int)
    · rw [runLoop_reached hnext] at h
      cases h
      exact ⟨hnext, by push_cast; omega, 1, by omega, rfl, rfl⟩
    · obtain ⟨hle, hlt, n, hn, htotal, ht⟩ := ih h (not_le.mp hnext)
      exact ⟨hle, hlt, n + 1, by omega, by rw [← htotal, run, Nat.add_assoc], ht⟩

/-- The loop answers the first run that reaches the target, when the rounds allow it. -/
theorem runLoop_first {target : Int} {n rounds acc : Nat} {s : State} (hn : n ≤ rounds)
    (hreached : target ≤ ((acc + (run n s).1 : Nat) : Int))
    (hfirst : ∀ m, m < n → ((acc + (run m s).1 : Nat) : Int) < target) :
    runLoop target rounds acc s = some (.next (acc + (run n s).1, (run n s).2)) := by
  induction n generalizing rounds acc s with
  | zero => exact runLoop_reached hreached rounds s
  | succ n ih =>
    have hassoc (m : Nat) : acc + (run (m + 1) s).1 = acc + (after s).cost + (run m (after s)).1 := (Nat.add_assoc ..).symm
    cases rounds with
    | zero => omega
    | succ rounds =>
      have hbelow : (acc : Int) < target := hfirst 0 (Nat.succ_pos n)
      rw [runLoop_step hbelow, hassoc]
      refine ih (by omega) (by rwa [← hassoc]) fun m hm => ?_
      rw [← hassoc]
      exact hfirst (m + 1) (by omega)

/-! ## No step is free -/

/-- Of all instructions only the undefined values have a cost that a parameter sets (70_reset_and_hazards.md R420). -/
theorem cycleCost_pos {p : Params} (h : 0 < p.undefCycles) (i : Instr) : 0 < cycleCost p i := by
  cases i
  case undefined => exact h
  all_goals exact Nat.succ_pos _

theorem after_cost_pos {s : State} (hundef : 0 < s.params.undefCycles) (hhalt : 0 < s.params.haltStepCycles) :
    0 < (after s).cost := by
  have hbase : 0 < if s.cpu.resetLatch || s.cpu.halt then s.params.haltStepCycles else cycleCost s.params (decode (fetch s)) := by
    split
    · exact hhalt
    · exact cycleCost_pos hundef _
  rcases stepCycles s (after s) (step_after s) with ⟨-, hcost⟩ | ⟨-, hcost⟩ <;> omega

/-- When no step is free the loop answers within as many rounds as cycles are left (notes/assumptions/14.md). -/
theorem runLoop_answers {target : Int} {rounds acc : Nat} {s : State} (hundef : 0 < s.params.undefCycles)
    (hhalt : 0 < s.params.haltStepCycles) (h : target ≤ ((acc + rounds : Nat) : Int)) :
    ∃ total t, runLoop target rounds acc s = some (.next (total, t)) := by
  induction rounds generalizing acc s with
  | zero => exact ⟨acc, s, runLoop_reached h 0 s⟩
  | succ rounds ih =>
    by_cases hacc : (acc : Int) < target
    · rw [runLoop_step hacc]
      have hparams : (after s).params = s.params := step_params (step_after s)
      have hpos := after_cost_pos hundef hhalt
      exact ih (hparams ▸ hundef) (hparams ▸ hhalt) (by omega)
    · exact ⟨acc, s, runLoop_reached (not_lt.mp hacc) _ s⟩

/-- Settles O55: the loop from 0 cycles. (`Machine.runForCycles` is the model's own function.) -/
theorem Running.runForCycles : Obligations.RunForCycles := by
  unfold Obligations.RunForCycles
  intro rounds target s
  refine ⟨fun h => runLoop_reached h rounds s, fun acc t htarget h => ?_, fun n hn hreached hfirst => ?_,
    fun hundef hhalt h => runLoop_answers hundef hhalt (by rwa [Nat.zero_add])⟩
  · obtain ⟨hle, hlt, n, hn, htotal, ht⟩ := runLoop_sound h htarget
    rw [Nat.zero_add] at htotal
    exact ⟨hle, hlt, n, hn, Prod.ext htotal ht⟩
  · have hrun : runLoop target rounds 0 s = some (.next (0 + (run n s).1, (run n s).2)) :=
      runLoop_first hn (by rwa [Nat.zero_add]) fun m hm => by rw [Nat.zero_add]; exact hfirst m hm
    rwa [Nat.zero_add] at hrun

end Sys2Proof.Machine
end

section
/-! How long a one-shot and an envelope last (60_exceptions.md R353 to R355). -/

namespace Sys2Proof.Machine

open Sys2Proof.Safety

/-! ## One buzzer tick -/

/-- The envelope's part of a tick changes nothing of the buzzer but the envelope (60_exceptions.md R355). -/
theorem envTick_bz (p : Params) (b : Bus) :
    (envTick p b).bz = { b.bz with envLevel := (envTick p b).bz.envLevel, envCount := (envTick p b).bz.envCount } := by
  simp only [envTick]
  split
  · split <;> rfl
  · rfl

@[simp] theorem envTick_shotActive (p : Params) (b : Bus) : (envTick p b).bz.shotActive = b.bz.shotActive := by rw [envTick_bz]

@[simp] theorem envTick_shotCount (p : Params) (b : Bus) : (envTick p b).bz.shotCount = b.bz.shotCount := by rw [envTick_bz]

@[simp] theorem buzzerUpdate_shotCount (p : Params) (b : Bus) : (buzzerUpdate p b).bz.shotCount = b.bz.shotCount := by
  rw [buzzerUpdate_eq, emitIfChanged_bz, requested_eq]

@[simp] theorem buzzerUpdate_prevRequest (p : Params) (b : Bus) : (buzzerUpdate p b).bz.prevRequest = buzzerRequest p b := by
  rw [buzzerUpdate_eq, emitIfChanged_bz, requested_eq]

/-- Without a rising request `BuzzerUpdate()` leaves the envelope alone (60_exceptions.md R351). -/
theorem buzzerUpdate_envelope {p : Params} {b : Bus} (h : b.bz.prevRequest = true) :
    (buzzerUpdate p b).bz.envLevel = b.bz.envLevel ∧ (buzzerUpdate p b).bz.envCount = b.bz.envCount := by
  have hrestart : restarts p false b = false := by simp only [restarts, h, Bool.not_true, Bool.and_false, Bool.or_false]
  rw [buzzerUpdate_eq, emitIfChanged_bz, requested_eq, hrestart]
  exact ⟨rfl, rfl⟩

/-- A tick of an active one-shot (60_exceptions.md R355). -/
theorem buzzerTick_shot {p : Params} {b : Bus} (h : b.bz.shotActive = true) :
    (buzzerTick p b).bz.shotCount = b.bz.shotCount - 1 ∧ (buzzerTick p b).bz.shotActive = (b.bz.shotCount - 1 != 0) := by
  rw [buzzerTick, buzzerUpdate_shotCount, buzzerUpdate_shotActive, envTick_shotCount, envTick_shotActive, shotTick, if_pos h]
  exact ⟨rfl, rfl⟩

/-- The one-shot's part of a tick leaves everything the envelope is counted by. -/
theorem shotTick_envelope (b : Bus) :
    (shotTick b).bz.envLevel = b.bz.envLevel ∧ (shotTick b).bz.envCount = b.bz.envCount ∧
      (shotTick b).bz.prevRequest = b.bz.prevRequest := by
  rw [shotTick]
  split <;> exact ⟨rfl, rfl, rfl⟩

/-- The tone requests the buzzer (60_exceptions.md R350). -/
theorem buzzerRequest_of_tone {p : Params} {b c : Bus} (hio : c.io = b.io) (h : tone p b = true) : buzzerRequest p c = true := by
  have htone : tone p c = tone p b := by simp only [tone, hio]
  rw [buzzerRequest, htone, h, Bool.true_or]

/-! ## The one-shot -/

theorem buzzerTick_iterate_shot {p : Params} {b : Bus} (h : b.bz.shotActive = true) {k : Nat} (hk : k < b.bz.shotCount) :
    ((buzzerTick p)^[k] b).bz.shotActive = true ∧ ((buzzerTick p)^[k] b).bz.shotCount = b.bz.shotCount - k := by
  induction k with
  | zero => exact ⟨h, rfl⟩
  | succ k ih =>
    obtain ⟨hactive, hcount⟩ := ih (by omega)
    obtain ⟨hcount', hactive'⟩ := buzzerTick_shot (p := p) hactive
    rw [Function.iterate_succ_apply', hactive', hcount', hcount, bne_iff_ne]
    omega

/-- The last tick of a one-shot ends it (60_exceptions.md R355). -/
theorem buzzerTick_iterate_shot_end {p : Params} {b : Bus} (h : b.bz.shotActive = true) (hcount : 0 < b.bz.shotCount) :
    ((buzzerTick p)^[b.bz.shotCount] b).bz.shotActive = false := by
  obtain ⟨k, hk⟩ := Nat.exists_eq_add_of_le' hcount
  obtain ⟨hactive, hleft⟩ := buzzerTick_iterate_shot (p := p) h (show k < b.bz.shotCount by omega)
  rw [hk, Function.iterate_succ_apply', (buzzerTick_shot hactive).2, hleft, hk, Nat.add_sub_cancel_left]
  rfl

/-! ## The envelope -/

/-- A tick of the envelope's counter while its level is not 0 (60_exceptions.md R355). -/
theorem envTick_sounding {p : Params} {b : Bus} (hon : b.io.enon = true) (hreq : buzzerRequest p b = true)
    (hlevel : b.bz.envLevel.val ≠ 0) :
    envTick p b =
      if b.bz.envCount - 1 = 0 then { b with bz := { b.bz with envLevel := b.bz.envLevel - 1, envCount := envStep p b } }
      else { b with bz := { b.bz with envCount := b.bz.envCount - 1 } } := by
  rw [envTick, if_pos (by rw [hon, hreq, Bool.true_and, Bool.true_and, bne_iff_ne]; exact hlevel)]

/-- At level 0 the envelope rests (60_exceptions.md R355). -/
theorem envTick_silent {p : Params} {b : Bus} (hlevel : b.bz.envLevel.val = 0) : envTick p b = b := by
  rw [envTick, hlevel, bne_self_eq_false, Bool.and_false, if_neg Bool.false_ne_true]

/-- The envelope `q` whole steps and `r` ticks after the restart that `b` shows: its level has gone down `q` times, and `r` ticks of
the current step have passed (60_exceptions.md R353, R355). -/
structure EnvelopeAt (p : Params) (b : Bus) (q r : Nat) (c : Bus) : Prop where
  io : c.io = b.io
  request : c.bz.prevRequest = true
  level : c.bz.envLevel.val = 7 - q
  count : q < 7 → c.bz.envCount = envStep p b - r

section
variable {p : Params} {b c : Bus} {q r : Nat}

theorem EnvelopeAt.shotTick (h : EnvelopeAt p b q r c) : EnvelopeAt p b q r (shotTick c) := by
  obtain ⟨hlevel, hcount, hrequest⟩ := shotTick_envelope c
  exact ⟨(shotTick_io c).trans h.io, hrequest.trans h.request, (congrArg Fin.val hlevel).trans h.level,
    fun hq => hcount.trans (h.count hq)⟩

theorem EnvelopeAt.buzzerUpdate (htone : tone p b = true) (h : EnvelopeAt p b q r c) :
    EnvelopeAt p b q r (buzzerUpdate p c) := by
  obtain ⟨hlevel, hcount⟩ := buzzerUpdate_envelope (p := p) h.request
  exact ⟨(buzzerUpdate_io p c).trans h.io, (buzzerUpdate_prevRequest p c).trans (buzzerRequest_of_tone h.io htone),
    (congrArg Fin.val hlevel).trans h.level, fun hq => hcount.trans (h.count hq)⟩

/-- A tick inside a step counts. -/
theorem EnvelopeAt.envTick_within (hon : b.io.enon = true) (htone : tone p b = true) (hr : r + 1 < envStep p b)
    (h : EnvelopeAt p b q r c) : EnvelopeAt p b q (r + 1) (envTick p c) := by
  have hlevel := h.level
  by_cases hq : q < 7
  · have hcount := h.count hq
    rw [envTick_sounding (h.io ▸ hon) (buzzerRequest_of_tone h.io htone) (by omega), if_neg (by omega)]
    exact ⟨h.io, h.request, hlevel, fun _ => by rw [hcount, Nat.sub_sub]⟩
  · rw [envTick_silent (by omega)]
    exact ⟨h.io, h.request, hlevel, fun hq' => absurd hq' hq⟩

/-- The last tick of a step takes the level down and starts the next step. -/
theorem EnvelopeAt.envTick_end (hon : b.io.enon = true) (htone : tone p b = true) (hr : r + 1 = envStep p b)
    (h : EnvelopeAt p b q r c) : EnvelopeAt p b (q + 1) 0 (envTick p c) := by
  have hlevel := h.level
  by_cases hq : q < 7
  · have hcount := h.count hq
    have hne : c.bz.envLevel ≠ 0 := fun h0 => by
      rw [h0, Fin.val_zero] at hlevel
      omega
    rw [envTick_sounding (h.io ▸ hon) (buzzerRequest_of_tone h.io htone) (by omega), if_pos (by omega)]
    refine ⟨h.io, h.request, ?_, fun _ => ?_⟩
    · show (c.bz.envLevel - 1).val = 7 - (q + 1)
      rw [Fin.val_sub_one_of_ne_zero hne, hlevel, Nat.sub_sub]
    · simp only [envStep, h.io, Nat.sub_zero]
  · rw [envTick_silent (by omega)]
    exact ⟨h.io, h.request, by omega, fun hq' => by omega⟩

/-- After `k` ticks: `k` divided into whole steps and a rest. -/
theorem envelopeAt_iterate (hon : b.io.enon = true) (htone : tone p b = true) (hstep : 0 < envStep p b)
    (h : EnvelopeAt p b 0 0 b) (k : Nat) :
    ∃ q r, r + envStep p b * q = k ∧ r < envStep p b ∧ EnvelopeAt p b q r ((buzzerTick p)^[k] b) := by
  induction k with
  | zero => exact ⟨0, 0, rfl, hstep, h⟩
  | succ k ih =>
    obtain ⟨q, r, hk, hr, hat⟩ := ih
    rw [Function.iterate_succ_apply', buzzerTick]
    by_cases hend : r + 1 = envStep p b
    · refine ⟨q + 1, 0, ?_, hstep, (hat.shotTick.envTick_end hon htone hend).buzzerUpdate htone⟩
      rw [Nat.mul_succ]
      omega
    · exact ⟨q, r + 1, by omega, by omega, (hat.shotTick.envTick_within hon htone (by omega)).buzzerUpdate htone⟩

end

/-- Settles O47: the one-shot's count from tick to tick, and the envelope's steps from `envelopeAt_iterate`. -/
theorem buzzerTimes : Obligations.BuzzerTimes := by
  unfold Obligations.BuzzerTimes
  intro p b k hw c
  refine ⟨fun hactive hcount => ⟨buzzerTick_iterate_shot hactive, ?_⟩, fun hon htone hrequest hlevel hcount => ?_⟩
  · rintro rfl
    exact buzzerTick_iterate_shot_end hactive hcount
  · have hstep := envStep_pos hw b
    obtain ⟨q, r, hk, hr, hat⟩ := envelopeAt_iterate hon htone hstep ⟨rfl, hrequest, hlevel, fun _ => hcount⟩ k
    obtain ⟨hq, -⟩ := (Nat.div_mod_unique hstep).mpr ⟨hk, hr⟩
    rw [hq]
    exact hat.level

end Sys2Proof.Machine
end

section
/-! Reset and construction (70_reset_and_hazards.md R400 to R403): one closed form of the state after a reset, and the parts of the
invariant right after construction. -/

namespace Sys2Proof.Machine

open Sys2Proof.Safety

/-! ## The registers of the reset state -/

/-- A port with its reset levels is latched by its direction (10_state.md R33, 20_memory.md R78). -/
theorem documentedPort_latch (out : Bool) : (documentedPort out).latch out = documentedPort out := by cases out <;> rfl

/-- The reset values of the I/O registers are those of the table of 10_state.md R33. -/
theorem Io.reset_eq_documentedIo (p : Params) : Io.reset p = documentedIo p := by
  have hout : port3Output p = decide (p.port3Dedicated = true ∧ p.p3DedicatedDir = .output) := by
    simp only [port3Output, Bool.decide_and, Bool.decide_eq_true]
    rfl
  rw [documentedIo, ← hout, Io.reset]
  cases port3Output p <;> rfl

/-- Every port of the table has the latch of its direction; only port 3 can be an output, as a dedicated one (20_memory.md R78). -/
theorem documentedIo_port (p : Params) (n : Fin 4) :
    (documentedIo p).port n = documentedPort (portDir p (documentedIo p) n) := by
  have hdir : portDir p (documentedIo p) n = decide (n = 3 ∧ p.port3Dedicated = true ∧ p.p3DedicatedDir = .output) := by
    rw [Bool.eq_iff_iff, portDir_iff, PortOut, decide_eq_true_iff, ← and_assoc]
    split
    · next h => rw [and_iff_right h]
    · next h => simp [h, documentedIo]
  rw [hdir]
  match n with
  | 0 | 1 | 2 => rfl
  | 3 => simp [documentedIo, Io.port]

/-- The reset values are latched (10_state.md R33). -/
theorem relatch_reset (p : Params) : relatch p (Io.reset p) = Io.reset p := by
  have hlatch (n : Fin 4) : ((Io.reset p).port n).latch (portDir p (Io.reset p) n) = (Io.reset p).port n := by
    rw [Io.reset_eq_documentedIo, documentedIo_port]
    exact documentedPort_latch _
  exact (portsOk_iff p (State.construct p).bus).mpr ⟨hlatch 0, hlatch 1, hlatch 2, hlatch 3⟩

/-! ## The buzzer with reset registers -/

/-- The output of a buzzer with reset registers: the tone of `BZ_ACTIVE_LOW`, or silence (60_exceptions.md R350, R352). -/
def resetEvent (p : Params) : BuzzerEvent := if p.bzActiveLow then ⟨true, p.oscHz / p.bzDiv[0], 1⟩ else ⟨false, 0, 0⟩

section
variable {p : Params} {b : Bus}

/-- With reset registers and no one-shot the request is the tone of `BZ_ACTIVE_LOW` (60_exceptions.md R350). -/
theorem buzzerRequest_of_reset (hio : b.io = Io.reset p) (hshot : b.bz.shotActive = false) :
    buzzerRequest p b = p.bzActiveLow := by
  have htone : b.io.r4.getLsbD 3 = false := by rw [hio]; exact BitVec.getLsbD_zero
  rw [buzzerRequest, tone, hshot, htone, Bool.or_false, Bool.false_xor]

theorem buzzerEvent_of_reset (hio : b.io = Io.reset p) (hshot : b.bz.shotActive = false) : buzzerEvent p b = resetEvent p := by
  have hon : b.io.enon = false := by rw [hio]; rfl
  have hhz : buzzerHz p b = p.oscHz / p.bzDiv[0] := by simp only [buzzerHz, hio]; rfl
  have hgain : buzzerGain b = 1 := by rw [buzzerGain, hon, if_neg Bool.false_ne_true]
  rw [buzzerEvent, buzzerRequest_of_reset hio hshot, hon, hhz, hgain, Bool.not_false, Bool.true_or, Bool.and_true]
  rfl

/-- `BuzzerUpdate()` of a cleared buzzer with reset registers: the buzzer of `Buzzer.reset` with its event current, and that event
emitted when it is new (60_exceptions.md R351, R352). -/
theorem buzzerUpdate_of_reset (hio : b.io = Io.reset p) (hbz : b.bz = ⟨false, 0, 0, 0, false, b.bz.lastEvent⟩) :
    buzzerUpdate p b =
      { b with
        bz := { Buzzer.reset p with lastEvent := resetEvent p }
        events := if resetEvent p = b.bz.lastEvent then b.events else b.events ++ [.buzzer (resetEvent p)] } := by
  have hshot : b.bz.shotActive = false := by rw [hbz]
  have hreq := buzzerRequest_of_reset hio hshot
  have hrestart : restarts p false b = p.bzActiveLow := by
    rw [restarts, hreq, hbz, Bool.false_or, Bool.not_false, Bool.and_true]
  have hstep : envStep p b = p.envStepTicks[0] := by simp only [envStep, hio]; rfl
  have hevent : buzzerEvent p (requested p false b) = resetEvent p := by
    rw [requested_eq]
    exact buzzerEvent_of_reset hio hshot
  rw [buzzerUpdate_eq, emitIfChanged_eq, hevent, requested_eq, hrestart, hreq, hstep, hbz]
  rfl

end

/-! ## The display generation -/

/-- The display changed: some cell of the VRAM is not 0, or `LCD_CTRL` is not its reset value (70_reset_and_hazards.md R400). -/
theorem displayChanged_iff (b : Bus) :
    displayChanged b = true ↔ (∃ i, i < 160 ∧ Memory.read b.vram i ≠ 0#4) ∨ b.io.lcdCtrl ≠ 0x8#4 := by
  simp only [displayChanged, Bool.or_eq_true, List.any_eq_true, List.mem_range, bne_iff_ne]

/-- With an empty VRAM and reset registers there is no change to count. -/
theorem displayChanged_of_reset {p : Params} {b : Bus} (hvram : b.vram = []) (hio : b.io = Io.reset p) :
    displayChanged b = false := by
  rw [← Bool.not_eq_true, displayChanged_iff, hvram, hio]
  rintro (⟨i, -, h⟩ | h) <;> exact h rfl

/-! ## The state after a reset -/

/-- The display generation after a reset (70_reset_and_hazards.md R400). -/
def resetGeneration (b : Bus) : Nat := if displayChanged b then b.displayGeneration + 1 else b.displayGeneration

/-- The events after a reset with the arguments `p` (70_reset_and_hazards.md R400, 60_exceptions.md R352). -/
def resetEvents (p : Params) (b : Bus) : List OutEvent :=
  if resetEvent p = b.bz.lastEvent then b.events else b.events ++ [.buzzer (resetEvent p)]

/-- The state after construction with the arguments `p`, but with the buzzer's event current and with the given display generation
and events: what a reset leaves. -/
def resetWith (p : Params) (generation : Nat) (events : List OutEvent) : State :=
  withBus (State.construct p) { (State.construct p).bus with
    bz := { Buzzer.reset p with lastEvent := resetEvent p }
    displayGeneration := generation
    events := events }

/-- `reset()` in closed form: of the old state only the arguments, the display generation and the events are left
(70_reset_and_hazards.md R400). -/
theorem resetOp_eq (s : State) : resetOp s = resetWith s.params (resetGeneration s.bus) (resetEvents s.params s.bus) := by
  have hio : relatch s.params (State.construct s.params).bus.io = Io.reset s.params := relatch_reset s.params
  simp only [resetOp, hio]
  exact congrArg (withBus (State.construct s.params)) (buzzerUpdate_of_reset rfl rfl)

/-- A reset that follows a reset changes nothing: no display to clear, no event to emit (70_reset_and_hazards.md R402). -/
theorem resetOp_resetWith (p : Params) (generation : Nat) (events : List OutEvent) :
    resetOp (resetWith p generation events) = resetWith p generation events := by
  have hsame : displayChanged (resetWith p generation events).bus = false := displayChanged_of_reset rfl rfl
  have hgeneration : resetGeneration (resetWith p generation events).bus = generation := by
    rw [resetGeneration, hsame, if_neg Bool.false_ne_true]
    rfl
  have hevents : resetEvents p (resetWith p generation events).bus = events := if_pos rfl
  rw [resetOp_eq, hgeneration]
  exact congrArg (resetWith p generation) hevents

/-- Settles O56: every element is read off `resetOp_eq`; a second reset is `resetOp_resetWith`. -/
theorem reset : Obligations.Reset := by
  unfold Obligations.Reset
  intro s t p e shown
  have hshown : displayChanged s.bus = true ↔ shown := displayChanged_iff s.bus
  have ht : t = resetWith p (resetGeneration s.bus) (resetEvents p s.bus) := resetOp_eq s
  rw [ht]
  refine ⟨rfl, rfl, rfl, fun _ => ⟨rfl, rfl⟩, Io.reset_eq_documentedIo p, rfl, rfl, ?events, ?counted, ?kept,
    resetOp_resetWith ..⟩
  case events => exact if_congr eq_comm rfl rfl
  case counted => exact fun h => if_pos (hshown.mpr h)
  case kept => exact fun h => if_neg (mt hshown.mp h)

/-! ## The state after construction -/

/-- Settles O57: the reset state with the default parameters, by evaluation. -/
theorem resetState : Obligations.ResetState := by
  unfold Obligations.ResetState
  intro s
  refine ⟨rfl, fun _ => ⟨rfl, rfl⟩, ⟨rfl, rfl, rfl, rfl, rfl, rfl⟩, ⟨rfl, rfl, rfl, rfl, rfl, rfl⟩,
    ⟨rfl, rfl, rfl, rfl, rfl, rfl, rfl, rfl⟩, ⟨rfl, rfl, rfl, rfl, rfl, rfl, rfl, rfl, rfl, rfl⟩,
    ⟨rfl, rfl, rfl, rfl, rfl, rfl, rfl, rfl, rfl⟩, ⟨rfl, rfl, rfl⟩, fun n => ?ports, rfl, rfl, rfl, rfl⟩
  case ports =>
    have hport : s.bus.io.port n = documentedPort false := by fin_cases n <;> rfl
    rw [hport]
    exact ⟨rfl, rfl, rfl, rfl, rfl⟩

section
variable {p : Params}

/-- A silent buzzer after construction is the current one (60_exceptions.md R351, R352). -/
theorem buzzerOk_construct (h : p.bzActiveLow = false) : BuzzerOk p (State.construct p).bus := by
  have hevent : resetEvent p = BuzzerEvent.off := if_neg (by rw [h]; exact Bool.false_ne_true)
  exact ⟨(buzzerRequest_of_reset rfl rfl).symm, ((buzzerEvent_of_reset rfl rfl).trans hevent).symm⟩

/-- The counters are 0 after construction, but for the envelope restarted by an active-low tone (70_reset_and_hazards.md R400). -/
theorem countersOk_construct (hw : p.wf = true) : CountersOk (State.construct p).bus := by
  have hstep : 0 < p.envStepTicks[0] := envStep_pos hw (State.construct p).bus
  have henvelope : 0 < (Buzzer.reset p).envLevel.val → 0 < (Buzzer.reset p).envCount := by
    cases h : p.bzActiveLow
    · simp [Buzzer.reset, h]
    · simpa [Buzzer.reset, h] using hstep
  exact (countersOk_iff _).mpr ⟨⟨Nat.zero_le 9, Nat.zero_le 9, show 0#2 ≠ 3#2 by decide⟩,
    ⟨⟨nofun, nofun⟩, henvelope⟩⟩

/-- The residuals are 0 after construction, and every divisor is positive (60_exceptions.md R321). -/
theorem clockOk_construct (hw : p.wf = true) : ClockOk p (State.construct p).bus := by
  obtain ⟨-, -, htm, hsw, -⟩ := wf_ranges hw
  exact ⟨⟨le_rfl, (oscDiv_pos hw).le⟩, ⟨le_rfl, zero_le_one.trans htm⟩, ⟨le_rfl, zero_le_one.trans hsw⟩, le_rfl⟩

/-- Construction gives the invariant where its last event is the current one (70_reset_and_hazards.md R401). -/
theorem inv_construct (hw : p.wf = true) (h : p.bzActiveLow = false) : Inv (State.construct p) :=
  ⟨hw, ⟨rfl, rfl⟩, memOk_construct p, relatch_reset p, buzzerOk_construct h, countersOk_construct hw, clockOk_construct hw, rfl⟩

end

/-- Settles O58: `inv_construct`, and the default parameters are in their ranges. -/
theorem invariantAfterReset : Obligations.InvariantAfterReset := by
  unfold Obligations.InvariantAfterReset
  exact ⟨fun _ => inv_construct, inv_construct (by decide +kernel) rfl⟩

end Sys2Proof.Machine
end
